-- ==== Sys2Proof/Word.lean ====
section
/-! DEFINITION. The word types of the VDU block (00_scope.md R12: integers are signed 32-bit two's complement unless a
width is given; bytes are 8 bits; a 16-bit argument is two bytes). -/

namespace Sys2Proof

/-- One byte of the command stream, and every 8-bit register. -/
abbrev Byte := BitVec 8

/-- A 16-bit operand as it stands in the stream (30_encoding.md R84), before sign extension. -/
abbrev Half := BitVec 16

/-- A signed 32-bit coordinate (00_scope.md R12, 42_window_graphics.md R183: arithmetic wraps modulo 2^32). -/
abbrev Word := BitVec 32

end Sys2Proof
end

