-- ==== Sys2Proof/Config.lean ====
section
/-! DEFINITION. The implementation parameters of 00_scope.md R6 as plain data, the test platform P of
95_test_vectors.md section 0, and two free values: what a collaborator answers where the spec states no answer (the third,
`freeChar`, stands in Machine/State.lean beside the requests it depends on).
The numeric literals of the source stand in Machine/Literals.lean. -/

namespace Sys2Proof

/-- What `FONT.Metrics()` answers (00_scope.md R13): glyph width and height, signed 32-bit (R12). -/
structure Metrics where
  fw : Word
  fh : Word
deriving DecidableEq, Repr, Inhabited

/-- What `SM.Geometry()` answers (00_scope.md R13): W, H, BPP, EIGX, EIGY, NCOL, each signed 32-bit (R12). -/
structure Geometry where
  w : Word
  h : Word
  bpp : Word
  eigx : Word
  eigy : Word
  ncol : Word
deriving DecidableEq, Repr, Inhabited

/-- `DefaultColours(mode)` (00_scope.md R6): text and graphics foreground and background. -/
structure DefColours where
  tfg : Byte
  tbg : Byte
  gfg : Byte
  gbg : Byte
deriving DecidableEq, Repr, Inhabited

/-- One supported built-in mode: its number, `ModeGeometry` and `DefaultColours` (00_scope.md R6). -/
structure ModeRow where
  number : Byte
  geometry : Geometry
  colours : DefColours
deriving DecidableEq, Repr, Inhabited

/-- `EditKeys` (00_scope.md R6, 30_encoding.md R88), in the order left, right, down, up. -/
structure EditKeys where
  left : Byte
  right : Byte
  down : Byte
  up : Byte
deriving DecidableEq, Repr, Inhabited

/-- The kinds of a VDU 23 sub-command (30_encoding.md R87). -/
inductive SubKind
  | defineGlyph
  | cursorEnable
  | tint
  | fontSelect
  | spriteSelect
  | spriteDefine
  | modeDefine
  | unknown
deriving DecidableEq, Repr

/-- The parameters a model of the block takes (00_scope.md R6). They are held in the state and never written, so a
claim over every state quantifies over every platform (log 1).
`modes` lists `SupportedModes` with each mode's geometry and colours; the first row of a number counts. `qfill` and
`ffill` are what the queue buffer and the scratch buffer hold at power-on, which the spec leaves unspecified
(10_state.md R45): slot `i` holds byte `i` of the list, and 0 past its end (log 2, log 3). -/
structure Params where
  qcap : Nat
  flashPeriod : Nat
  modes : List ModeRow
  defaultMode : Byte
  font : Metrics
  customColours : DefColours
  editKeys : EditKeys
  subCmd : List (Byte × SubKind)
  qfill : List Byte
  ffill : List Byte
deriving DecidableEq, Repr

/-- The test platform P of 95_test_vectors.md section 0. DESIGN CHOICE, unsafe (log 1): the spec leaves these
parameters OPEN; only `State.reset` uses this platform. -/
def Config.platform : Params where
  qcap := 32
  flashPeriod := 50
  modes := [{ number := 0
              geometry := { w := 640, h := 480, bpp := 8, eigx := 1, eigy := 1, ncol := 256 }
              colours := { tfg := 7, tbg := 0, gfg := 7, gbg := 0 } }]
  defaultMode := 0
  font := { fw := 8, fh := 8 }
  customColours := { tfg := 7, tbg := 0, gfg := 7, gbg := 0 }
  editKeys := { left := 136, right := 137, down := 138, up := 139 }
  subCmd := [(1, .cursorEnable), (10, .fontSelect), (17, .tint), (22, .modeDefine), (27, .spriteSelect),
             (28, .spriteDefine)]
  qfill := []
  ffill := []

/-- FREE VALUE (log 8): the metrics of the font that a `FONT.Select` leaves active, where no answer was given, for the
parameters the Font collaborator then holds. -/
opaque Config.freeMetrics : Nat → List (Option Byte) → Metrics

/-- FREE VALUE (log 9): the geometry of a custom mode with these parameter bytes, where no answer was given. -/
opaque Config.freeGeometry : Nat → List Byte → Geometry

end Sys2Proof
end

