-- ==== Sys2Proof/Syntax.lean ====
section
/-! DEFINITION. The instructions (30_encoding.md R89, opcode_table.json): one constructor per mnemonic, with the operands
its format gives (R81). The nine rebound opcodes have one constructor per binding. Also the handler ids of the dispatch
table (40_framer_dispatch.md R105, R108). -/

namespace Sys2Proof

/-- One VDU command: an opcode with its arguments (00_scope.md R2). Sixteen-bit operands are kept as they stand in the
stream; the meanings sign-extend them (30_encoding.md R84). -/
inductive Instr
  /-- VDU 0 (R110) -/
  | nul
  /-- VDU 1 (R111) -/
  | vdu1 (a : Byte)
  /-- VDU 2 (R112) -/
  | vdu2
  /-- VDU 3 (R113) -/
  | vdu3
  /-- VDU 4 (R106) -/
  | vdu4
  /-- VDU 5 (R107) -/
  | vdu5
  /-- VDU 6 (R114) -/
  | vdu6
  /-- VDU 7 (R115) -/
  | vdu7
  /-- VDU 8, text binding (R136) -/
  | left
  /-- VDU 8, graphics binding (R146) -/
  | gleft
  /-- VDU 9, text binding (R137) -/
  | right
  /-- VDU 9, graphics binding (R147) -/
  | gright
  /-- VDU 10, text binding (R138) -/
  | down
  /-- VDU 10, graphics binding (R148) -/
  | gdown
  /-- VDU 11, text binding (R139) -/
  | up
  /-- VDU 11, graphics binding (R149) -/
  | gup
  /-- VDU 12, text binding (R140) -/
  | cls
  /-- VDU 12, graphics binding (R151) -/
  | gcls
  /-- VDU 13, text binding (R141) -/
  | cr
  /-- VDU 13, graphics binding (R152) -/
  | gcr
  /-- VDU 14 (R116) -/
  | vdu14
  /-- VDU 15 (R117) -/
  | vdu15
  /-- VDU 16 (R184) -/
  | clg
  /-- VDU 17 (R211): colour byte c -/
  | colour (c : Byte)
  /-- VDU 18 (R212): plot action k, colour byte c -/
  | gcol (k c : Byte)
  /-- VDU 19 (R213): logical colour, palette index, red, green, blue -/
  | palette (l p r g b : Byte)
  /-- VDU 20 (R215) -/
  | defcol
  /-- VDU 21 (R118) -/
  | vdu21
  /-- VDU 22 (R232): mode number -/
  | mode (n : Byte)
  /-- VDU 23 (R240): sub-command number and its eight data bytes -/
  | vdu23 (n d0 d1 d2 d3 d4 d5 d6 d7 : Byte)
  /-- VDU 24 (R187): left, bottom, right, top -/
  | gwindow (l b r t : Half)
  /-- VDU 25 (R185): plot code, x, y -/
  | plot (k : Byte) (x y : Half)
  /-- VDU 26 (R190) -/
  | defwin
  /-- VDU 27 (R156): escaped byte -/
  | esc (e : Byte)
  /-- VDU 28 (R188): left, bottom, right, top -/
  | twindow (l b r t : Byte)
  /-- VDU 29 (R189): x, y -/
  | origin (x y : Half)
  /-- VDU 30, text binding (R142) -/
  | home
  /-- VDU 30, graphics binding (R153) -/
  | ghome
  /-- VDU 31, text binding (R143): column, row -/
  | tab (x y : Byte)
  /-- VDU 31, graphics binding (R154): column, row -/
  | gtab (x y : Byte)
  /-- VDU 127, text binding (R144) -/
  | del
  /-- VDU 127, graphics binding (R155) -/
  | gdel
  /-- VDU 32 to 126 and 128 to 255 (R150): the glyph code is the opcode byte -/
  | print (c : Byte)
deriving DecidableEq, Repr

/-- A handler id, what a dispatch-table entry points at (10_state.md R24; 40_framer_dispatch.md R105, R108). -/
inductive Handler
  | nop
  | vdu4
  | vdu5
  | clg
  | colour
  | gcol
  | palette
  | defcol
  | mode
  | vdu23
  | gwindow
  | plot
  | defwin
  | esc
  | twindow
  | origin
  | print
  | tleft
  | gleft
  | tright
  | gright
  | tdown
  | gdown
  | tup
  | gup
  | cls
  | gcls
  | tcr
  | gcr
  | thome
  | ghome
  | ttab
  | gtab
  | tdel
  | gdel
deriving DecidableEq, Repr

end Sys2Proof
end

