-- ==== Sys2Proof/WellFormed.lean ====
section
/-! DEFINITION. Which instruction terms are commands of the protocol: the glyph code of PRINT is a printable opcode
(30_encoding.md R89), and a rebound opcode's constructor belongs to one binding (R92). -/

namespace Sys2Proof

/-- The opcodes whose handler is PRINT: 32 to 126 and 128 to 255 (30_encoding.md R89, 90_conflicts.md C3). -/
def printable (c : Byte) : Bool := 32 ≤ c.toNat && c.toNat != 127

/-- Well-formed on its own: PRINT names a printable opcode. Every other constructor's fields hold only values its
encoding admits. -/
def Instr.wf : Instr → Bool
  | .print c => printable c
  | _ => true

/-- Well-formed under a binding (30_encoding.md R92): the text handlers of the rebound opcodes belong to VDU 4, the
graphics handlers to VDU 5; every other command belongs to both. -/
def Instr.boundTo (vdu5 : Bool) : Instr → Bool
  | .left | .right | .down | .up | .cls | .cr | .home | .tab _ _ | .del => !vdu5
  | .gleft | .gright | .gdown | .gup | .gcls | .gcr | .ghome | .gtab _ _ | .gdel => vdu5
  | _ => true

/-- Both checks together. -/
def Instr.wfUnder (vdu5 : Bool) (i : Instr) : Bool := i.wf && i.boundTo vdu5

end Sys2Proof
end

