-- ==== Sys2Proof/Decode.lean ====
section
/-! DEFINITION. The decoder and the encoder, both from 30_encoding.md (R80 to R92) and the dispatch table of
40_framer_dispatch.md (R105, R108, R109). Decoding goes the way the hardware goes: the opcode byte gives the argument
count and, with the binding, the handler; the handler reads its operands from the framed bytes. -/

namespace Sys2Proof

/-! ### Argument counts and the dispatch table -/

/-- The argument count of every opcode (30_encoding.md R82). It depends on the opcode only (R91). -/
def arglen (op : Byte) : Nat :=
  match op.toNat with
  | 1 => 1
  | 17 => 1
  | 18 => 2
  | 19 => 5
  | 22 => 1
  | 23 => 9
  | 24 => 8
  | 25 => 5
  | 27 => 1
  | 28 => 4
  | 29 => 4
  | 31 => 2
  | _ => 0

/-- The nine opcodes that VDU 4 and VDU 5 rebind (10_state.md R24). -/
def isBound (op : Byte) : Bool :=
  match op.toNat with
  | 8 | 9 | 10 | 11 | 12 | 13 | 30 | 31 | 127 => true
  | _ => false

/-- The handler of an opcode that is not rebound (40_framer_dispatch.md R105). -/
def fixedHandler (op : Byte) : Handler :=
  match op.toNat with
  | 0 | 1 | 2 | 3 | 6 | 7 | 14 | 15 | 21 => .nop
  | 4 => .vdu4
  | 5 => .vdu5
  | 16 => .clg
  | 17 => .colour
  | 18 => .gcol
  | 19 => .palette
  | 20 => .defcol
  | 22 => .mode
  | 23 => .vdu23
  | 24 => .gwindow
  | 25 => .plot
  | 26 => .defwin
  | 27 => .esc
  | 28 => .twindow
  | 29 => .origin
  | _ => .print

/-- `TextHandler(op)` of the nine rebound opcodes (40_framer_dispatch.md R108), the fixed handler of the others. -/
def textHandler (op : Byte) : Handler :=
  match op.toNat with
  | 8 => .tleft
  | 9 => .tright
  | 10 => .tdown
  | 11 => .tup
  | 12 => .cls
  | 13 => .tcr
  | 30 => .thome
  | 31 => .ttab
  | 127 => .tdel
  | _ => fixedHandler op

/-- `GraphicsHandler(op)` of the nine rebound opcodes (40_framer_dispatch.md R108), the fixed handler of the others. -/
def graphicsHandler (op : Byte) : Handler :=
  match op.toNat with
  | 8 => .gleft
  | 9 => .gright
  | 10 => .gdown
  | 11 => .gup
  | 12 => .gcls
  | 13 => .gcr
  | 30 => .ghome
  | 31 => .gtab
  | 127 => .gdel
  | _ => fixedHandler op

/-- The handler of an opcode under a binding (30_encoding.md R92). -/
def handlerFor (vdu5 : Bool) (op : Byte) : Handler :=
  if vdu5 then graphicsHandler op else textHandler op

/-! ### Operands -/

/-- Byte `i` of the framed command, `fbuf[i]` (00_scope.md R12). -/
def argByte (buf : List Byte) (i : Nat) : Byte := buf.getD i 0

/-- The 16 bits of `hi * 256 + lo` (30_encoding.md R84, before sign extension). -/
def joinBytes (lo hi : Byte) : Half := BitVec.ofNat 16 (hi.toNat * 256 + lo.toNat)

/-- The 16-bit operand in bytes `i` and `i + 1`, low byte first (30_encoding.md R84). -/
def argHalf (buf : List Byte) (i : Nat) : Half := joinBytes (argByte buf i) (argByte buf (i + 1))

/-- The low byte of a 16-bit operand, `x mod 256` (30_encoding.md R93). -/
def lowByte (x : Half) : Byte := BitVec.ofNat 8 x.toNat

/-- The high byte of a 16-bit operand, `(x div 256) mod 256` (30_encoding.md R93). -/
def highByte (x : Half) : Byte := BitVec.ofNat 8 (x.toNat / 256)

/-! ### Decoding -/

/-- The command a no-operation opcode stands for (40_framer_dispatch.md R110 to R118). -/
def nopInstr (buf : List Byte) : Instr :=
  match (argByte buf 0).toNat with
  | 1 => .vdu1 (argByte buf 1)
  | 2 => .vdu2
  | 3 => .vdu3
  | 6 => .vdu6
  | 7 => .vdu7
  | 14 => .vdu14
  | 15 => .vdu15
  | 21 => .vdu21
  | _ => .nul

/-- The command a handler runs on the framed bytes: each field where 30_encoding.md R81 puts it. -/
def decodeHandler (h : Handler) (buf : List Byte) : Instr :=
  match h with
  | .nop => nopInstr buf
  | .vdu4 => .vdu4
  | .vdu5 => .vdu5
  | .clg => .clg
  | .colour => .colour (argByte buf 1)
  | .gcol => .gcol (argByte buf 1) (argByte buf 2)
  | .palette => .palette (argByte buf 1) (argByte buf 2) (argByte buf 3) (argByte buf 4) (argByte buf 5)
  | .defcol => .defcol
  | .mode => .mode (argByte buf 1)
  | .vdu23 =>
    .vdu23 (argByte buf 1) (argByte buf 2) (argByte buf 3) (argByte buf 4) (argByte buf 5) (argByte buf 6)
      (argByte buf 7) (argByte buf 8) (argByte buf 9)
  | .gwindow => .gwindow (argHalf buf 1) (argHalf buf 3) (argHalf buf 5) (argHalf buf 7)
  | .plot => .plot (argByte buf 1) (argHalf buf 2) (argHalf buf 4)
  | .defwin => .defwin
  | .esc => .esc (argByte buf 1)
  | .twindow => .twindow (argByte buf 1) (argByte buf 2) (argByte buf 3) (argByte buf 4)
  | .origin => .origin (argHalf buf 1) (argHalf buf 3)
  | .print => .print (argByte buf 0)
  | .tleft => .left
  | .gleft => .gleft
  | .tright => .right
  | .gright => .gright
  | .tdown => .down
  | .gdown => .gdown
  | .tup => .up
  | .gup => .gup
  | .cls => .cls
  | .gcls => .gcls
  | .tcr => .cr
  | .gcr => .gcr
  | .thome => .home
  | .ghome => .ghome
  | .ttab => .tab (argByte buf 1) (argByte buf 2)
  | .gtab => .gtab (argByte buf 1) (argByte buf 2)
  | .tdel => .del
  | .gdel => .gdel

/-- What the decoder answers: a command and the bytes after it, or why there is none. No opcode is illegal
(30_encoding.md R90), so bytes are rejected only for being too few. -/
inductive Decoded
  /-- the command and the rest of the bytes -/
  | ok (i : Instr) (rest : List Byte)
  /-- no byte at all -/
  | empty
  /-- the opcode `op` takes `need` argument bytes and only `have_` are there: the framer is left in `BufferingArgs`
  (70_reset_and_hazards.md R296) -/
  | truncated (op : Byte) (need have_ : Nat)
deriving DecidableEq, Repr

/-- Decode one command from the front of a byte list, under a binding (30_encoding.md R91, R92). -/
def decode (vdu5 : Bool) (bs : List Byte) : Decoded :=
  match bs with
  | [] => .empty
  | op :: rest =>
    if rest.length < arglen op then .truncated op (arglen op) rest.length
    else .ok (decodeHandler (handlerFor vdu5 op) (op :: rest.take (arglen op))) (rest.drop (arglen op))

/-! ### Encoding -/

/-- The opcode byte of a command (30_encoding.md R89). -/
def Instr.opcode : Instr → Byte
  | .nul => 0
  | .vdu1 _ => 1
  | .vdu2 => 2
  | .vdu3 => 3
  | .vdu4 => 4
  | .vdu5 => 5
  | .vdu6 => 6
  | .vdu7 => 7
  | .left => 8
  | .gleft => 8
  | .right => 9
  | .gright => 9
  | .down => 10
  | .gdown => 10
  | .up => 11
  | .gup => 11
  | .cls => 12
  | .gcls => 12
  | .cr => 13
  | .gcr => 13
  | .vdu14 => 14
  | .vdu15 => 15
  | .clg => 16
  | .colour _ => 17
  | .gcol _ _ => 18
  | .palette _ _ _ _ _ => 19
  | .defcol => 20
  | .vdu21 => 21
  | .mode _ => 22
  | .vdu23 _ _ _ _ _ _ _ _ _ => 23
  | .gwindow _ _ _ _ => 24
  | .plot _ _ _ => 25
  | .defwin => 26
  | .esc _ => 27
  | .twindow _ _ _ _ => 28
  | .origin _ _ => 29
  | .home => 30
  | .ghome => 30
  | .tab _ _ => 31
  | .gtab _ _ => 31
  | .del => 127
  | .gdel => 127
  | .print c => c

/-- The two bytes of a 16-bit operand, low byte first (30_encoding.md R84). -/
def halfBytes (x : Half) : List Byte := [lowByte x, highByte x]

/-- The argument bytes of a command, in the order 30_encoding.md R81 gives its format. -/
def Instr.args : Instr → List Byte
  | .vdu1 a => [a]
  | .colour c => [c]
  | .gcol k c => [k, c]
  | .palette l p r g b => [l, p, r, g, b]
  | .mode n => [n]
  | .vdu23 n d0 d1 d2 d3 d4 d5 d6 d7 => [n, d0, d1, d2, d3, d4, d5, d6, d7]
  | .gwindow l b r t => halfBytes l ++ halfBytes b ++ halfBytes r ++ halfBytes t
  | .plot k x y => [k] ++ halfBytes x ++ halfBytes y
  | .esc e => [e]
  | .twindow l b r t => [l, b, r, t]
  | .origin x y => halfBytes x ++ halfBytes y
  | .tab x y => [x, y]
  | .gtab x y => [x, y]
  | .nul | .vdu2 | .vdu3 | .vdu4 | .vdu5 | .vdu6 | .vdu7 | .vdu14 | .vdu15 | .vdu21 | .clg | .defcol | .defwin
  | .left | .gleft | .right | .gright | .down | .gdown | .up | .gup | .cls | .gcls | .cr | .gcr | .home | .ghome
  | .del | .gdel | .print _ => []

/-- The bytes of a command: the opcode and its arguments (30_encoding.md R80). -/
def encode (i : Instr) : List Byte := i.opcode :: i.args

/-! ### The table's numbering -/

/-- The ten bytes of an instruction given as a number: byte `i` is bits 8i+7 to 8i, and every bit from `nbits` up is 0.
Ten bytes is the longest command (00_scope.md R6, FBUF_LEN). -/
def wordBytes (nbits w : Nat) : List Byte :=
  (List.range 10).map fun i => BitVec.ofNat 8 ((w % 2 ^ nbits) >>> (8 * i))

/-- The instruction the decoder reads from a table word, under the binding in force after reset (log 18). -/
def decodeTableWord (nbits w : Nat) : Option Instr :=
  match decode false (wordBytes nbits w) with
  | .ok i _ => some i
  | _ => none

end Sys2Proof
end

