-- ==== Sys2Proof/Machine/Literals.lean ====
section
/-! DEFINITION. The numeric literals of the source (00_scope.md R7, 93_implementation_defined.md part 3), each a named
constant so that an audit can change it (log 25), and the failure text of 44_mode_ext.md R233. -/

namespace Sys2Proof.Machine

/-- `BLINK_EDIT`, ticks (00_scope.md R6). -/
def blinkEdit : Nat := 160

/-- `BLINK_NORMAL`, ticks (00_scope.md R6). -/
def blinkNormal : Nat := 320

/-- `FBUF_LEN`: the opcode and up to nine arguments (40_framer_dispatch.md R101). -/
def fbufLen : Nat := 10

/-- Bits 5:0 of a colour register, the colour index (10_state.md R34). -/
def indexMask : Byte := 0x3F

/-- Bits 7:6 of a colour register, the tint (10_state.md R34). -/
def tintMask : Byte := 0xC0

/-- Channel intensity of VDU 19 with bit 3 of p set (43_colour.md R214). -/
def fullIntensity : Byte := 255

/-- Channel intensity of VDU 19 with bit 3 of p clear (43_colour.md R214). -/
def halfIntensity : Byte := 127

/-- The grey of the `p = 8` special case (43_colour.md R214, 90_conflicts.md C1). -/
def greyLevel : Byte := 63

/-- Plot action 0, replace (10_state.md R35). -/
def actReplace : Byte := 0

/-- Plot action 4, invert (10_state.md R35). -/
def actInvert : Byte := 4

/-- The "ignore" sentinel of the font-select parameters (44_mode_ext.md R243, 60_exceptions.md R263). -/
def ignoreByte : Byte := 0xFF

/-- The data bytes of a VDU 23 command, the parameters of a font select (30_encoding.md R81). -/
def fontParamCount : Nat := 8

/-- The space that VDU 127 erases a cell with (41_cursor.md R144). -/
def spaceChar : Byte := 32

/-- The rows of the flashing cursor, `max(1, FH div 8)` (10_state.md R44). -/
def flashHeight (fh : Nat) : Nat := max 1 (fh / 8)

/-- The 24 bytes of `Unsupported screen mode!` (44_mode_ext.md R233). -/
def failureText : List Byte :=
  [85, 110, 115, 117, 112, 112, 111, 114, 116, 101, 100, 32, 115, 99, 114, 101, 101, 110, 32, 109, 111, 100, 101, 33]

end Sys2Proof.Machine
end

