-- ==== Sys2Proof/Machine/State.lean ====
section
/-! DEFINITION. The state of the VDU block, whole (10_state.md R20 to R47), as plain data, with the requests it issues
(00_scope.md R13), the outcomes it records (60_exceptions.md R260), the agents that may move next, the ways a step can
stop, and the state after reset (70_reset_and_hazards.md R291). -/

namespace Sys2Proof.Machine

/-! ### Geometry -/

/-- A point in graphics coordinates, signed 32-bit (10_state.md R33, 42_window_graphics.md R183). -/
structure Point where
  x : Word
  y : Word
deriving DecidableEq, Repr

/-- An inclusive rectangle in internal coordinates, screen pixels from the bottom-left (41_cursor.md R130). -/
structure Rect where
  x0 : Word
  y0 : Word
  x1 : Word
  y1 : Word
deriving DecidableEq, Repr

/-- A text cell: column and row, row 0 at the top (00_scope.md R14). -/
structure TextPos where
  x : Nat
  y : Nat
deriving DecidableEq, Repr

/-- The text window, in cells (10_state.md R28). -/
structure TextWindow where
  l : Nat
  b : Nat
  r : Nat
  t : Nat
deriving DecidableEq, Repr

/-- The graphics window, in absolute external units (10_state.md R29). -/
structure GfxWindow where
  l : Word
  b : Word
  r : Word
  t : Word
deriving DecidableEq, Repr

/-! ### Queue and framer -/

/-- The queue buffer's contents: (index, byte) pairs, indexes strictly rising. An unlisted slot of the buffer holds its
power-on byte, and no entry equals that (log 2). -/
abbrev Memory := List Host.Cell

/-- The command queue (10_state.md R22). -/
structure Queue where
  buf : Memory
  w : Nat
  r : Nat
  count : Nat
deriving DecidableEq, Repr

/-- The framer's two states (10_state.md R23). -/
inductive FState
  | awaitingOpcode
  | bufferingArgs
deriving DecidableEq, Repr

/-- The framer (10_state.md R23): `fstate`, `fexp`, `fcnt`, `fhandler` and the scratch buffer `fbuf`. -/
structure Framer where
  state : FState
  exp : Nat
  cnt : Nat
  handler : Option Handler
  buf : List Byte
deriving DecidableEq, Repr

/-- The handlers of the nine mutable dispatch entries (10_state.md R24). Every other entry is fixed (log 17). -/
structure Bindings where
  h8 : Handler
  h9 : Handler
  h10 : Handler
  h11 : Handler
  h12 : Handler
  h13 : Handler
  h30 : Handler
  h31 : Handler
  h127 : Handler
deriving DecidableEq, Repr

/-! ### Mode, colours -/

/-- The active mode (10_state.md R26); `noMode` is the `none` that startup begins with (70_reset_and_hazards.md R291). -/
inductive ModeId
  | noMode
  | builtin (n : Byte)
  | custom
deriving DecidableEq, Repr

/-- The mode registers (10_state.md R26). -/
structure Screen where
  mode : ModeId
  w : Nat
  h : Nat
  bpp : Nat
  eigx : Nat
  eigy : Nat
  ncol : Nat
  fw : Nat
  fh : Nat
deriving DecidableEq, Repr

/-- The colour and plot-mode registers (10_state.md R34, R35). -/
structure Colours where
  tfg : Byte
  tbg : Byte
  gfg : Byte
  gbg : Byte
  gfgAct : Byte
  gbgAct : Byte
deriving DecidableEq, Repr

/-! ### Requests, outcomes, queries -/

/-- The direction the content of a scrolled area moves in (41_cursor.md R131, R132). -/
inductive ScrollDir
  | up
  | down
deriving DecidableEq, Repr

/-- The collaborator requests (00_scope.md R13), with their arguments. No rule of the spec issues `smGetColour` or
`smPaletteSync` (log 24). -/
inductive Request
  | smInit (target : ModeId) (params : Option (List Byte))
  | smGeometry
  | smResetPixels
  | smClearArea (area : Rect) (colour action : Byte)
  | smScroll (area : Rect) (dir : ScrollDir) (colour : Byte)
  | smSetColour (l r g b : Byte)
  | smGetColour (l : Byte)
  | smResetColours
  | smPaletteSync
  | smWriteChar (c : Byte) (col row : Nat) (fg bg : Byte)
  | smReadChar (col row : Nat)
  | smXorCell (area : Rect)
  | smUnknown (bytes : List Byte)
  | smFlashSwap
  | dpPlot (shape : BitVec 5) (colsel : BitVec 2) (colour action : Byte) (p0 p1 p2 : Point) (clip : Rect)
      (sprite : Byte)
  | dpPaintGlyph (c : Byte) (x y : Word) (colour action : Byte) (clip : Rect)
  | dpFillRect (area : Rect) (colour action : Byte) (clip : Rect)
  | dpDefineSprite (n : Byte) (bytes : List Byte)
  | dpClearSprites
  | fontMetrics
  | fontSelect (bytes : List Byte)
  | fontDefineGlyph (c : Byte) (rows : List Byte)
deriving DecidableEq, Repr

/-- What a `Rejected` outcome names (60_exceptions.md R260). -/
inductive RejectKind
  | twindow
  | gwindow
  | tab
deriving DecidableEq, Repr

/-- The four outcomes of 60_exceptions.md R260. -/
inductive Raised
  | rejected (kind : RejectKind)
  | unsupportedMode (n : Byte)
  | unknownSub (n : Byte)
  | queueOverflow (b : Byte)
deriving DecidableEq, Repr

/-- The fields of the query port (60_exceptions.md R273), and the two that 10_state.md R45 marks readable and R273 does
not list, `binding` and `screen` (log 19). -/
inductive Query
  | textCursor
  | editCursor
  | charAtText
  | charAtEdit
  | screenMode
  | gfxColours
  | textWindowCells
  | textWindowPixels
  | gfxWindowExternal
  | gfxWindowInternal
  | origin
  | gfxHistory
  | plotModes
  | colourTint
  | glyphSize
  | windowSize
  | binding
  | screen
deriving DecidableEq, Repr

/-- What the query port answers. -/
inductive Reply
  | cell (p : TextPos)
  | char (c : Byte)
  | mode (m : ModeId)
  | pair (a b : Byte)
  | cells (w : TextWindow)
  | pixels (r : Rect)
  | window (w : GfxWindow)
  | point (p : Point)
  | points (p0 p1 p2 : Point)
  | colours (tfg tbg gfg gbg : Byte)
  | size (w h : Nat)
  | flag (b : Bool)
  | geometry (w h bpp eigx eigy ncol : Nat)
deriving DecidableEq, Repr

/-- What an observer of the block's ports sees, one entry per transaction (log 4). -/
inductive Event
  /-- a collaborator request was issued (00_scope.md R10) -/
  | request (r : Request)
  /-- an outcome was recorded (60_exceptions.md R260) -/
  | outcome (o : Raised)
  /-- the query port answered (60_exceptions.md R273) -/
  | reply (q : Query) (a : Reply)
  /-- a `WAIT_VSYNC` caller was acknowledged (60_exceptions.md R277) -/
  | vsyncAck
deriving DecidableEq, Repr

/-! ### Agents and collaborators -/

/-- FREE VALUE (log 10): the byte `SM.ReadChar` answers for a cell, after these collaborator requests. Which pixels they
left, and what is read under a painted cursor, is the collaborator's (60_exceptions.md R274). -/
opaque freeChar : List Request → TextPos → Byte

/-- One turn of the schedule: which agent moves next, with its payload (00_scope.md R9; log 5). -/
inductive Turn
  /-- `BYTE_IN`: the producer enqueues a byte -/
  | byteIn (b : Byte)
  /-- `TICK` arrives -/
  | tick
  /-- `VSYNC` arrives -/
  | vsync
  /-- a caller performs `WAIT_VSYNC` -/
  | waitVsync
  /-- a held `WAIT_VSYNC` caller is looked at again -/
  | waiter
  /-- `QUERY` is asked for a field -/
  | query (q : Query)
  /-- the consumer takes its next step, if a tick is in progress -/
  | consumer
deriving DecidableEq, Repr

/-- Where the consumer stands in `Tick()` (60_exceptions.md R265): its next step (20_memory.md R71; log 6). -/
inductive Consumer
  /-- no tick is in progress -/
  | idle
  /-- in the drain loop: the next step is the emptiness test, with the pop if it finds a byte (20_memory.md R64) -/
  | draining
  /-- between a pop and its framing: the next step is `frame` of the popped byte -/
  | framing (b : Byte)
  /-- the queue was found empty: the next step is the counter update, which ends the tick -/
  | counting
deriving DecidableEq, Repr

/-- The agents: where the consumer stands, whether a tick is pending (60_exceptions.md R267, R270), how many `WAIT_VSYNC`
callers are held (R277, log 20), and the turns still to come (log 5). -/
structure Agents where
  consumer : Consumer
  tickPending : Bool
  waiters : Nat
  sched : List Turn
deriving DecidableEq, Repr

/-- What the model keeps of the collaborators (10_state.md R43): the metrics of the active font, the eight parameters it
was selected with (44_mode_ext.md R243; `none` where the default font's own parameter stands), the answers they are still
to give (inputs of the model), and the counter that free values are taken at (log 8, 9). -/
structure Collab where
  font : Metrics
  fontParams : List (Option Byte)
  fontAnswers : List Metrics
  geometryAnswers : List Geometry
  free : Nat
deriving DecidableEq, Repr

/-! ### The state -/

/-- The whole machine. The names of the spec's fields stand in INVENTORY.md beside these. -/
structure State where
  params : Params
  queue : Queue
  framer : Framer
  dt : Bindings
  vdu5 : Bool
  scr : Screen
  tw : TextWindow
  gw : GfxWindow
  org : Point
  txt : TextPos
  ed : TextPos
  edit : Bool
  g0 : Point
  g1 : Point
  g2 : Point
  col : Colours
  cursorEnabled : Bool
  fcVisible : Bool
  bcVisible : Bool
  vsync : Bool
  sprSel : Byte
  blinkCnt : Nat
  flashCnt : Nat
  reinit : Bool
  agents : Agents
  collab : Collab
  trace : List Event
deriving DecidableEq, Repr

/-! ### How a step can stop -/

/-- Why the machine stops with a fault. The spec gives the block no trap (60_exceptions.md); each of these is an access
to something that does not exist, and none is reachable from reset (log 21). -/
inductive Fault
  /-- the queue's read or write cursor is outside 0..QCAP-1 (20_memory.md R60). Raised by `enqueue` and `pop`; safe. -/
  | queueIndex (i : Nat)
  /-- an argument would land outside `fbuf[0..9]` (40_framer_dispatch.md R101). Raised by `frame`; safe. -/
  | scratchIndex (i : Nat)
  /-- a command is complete and no handler was captured (40_framer_dispatch.md R102). Raised by `execute`; safe. -/
  | noHandler
deriving DecidableEq, Repr

/-- Why the model gives no meaning. -/
inductive Refusal
  /-- an instruction without a meaning. Raised by `exec` only, for an arm not yet modelled; safe. -/
  | notModelled (mnemonic : String)
  /-- a mode or font whose glyph is larger than the screen, TW = 0 or TH = 0 (10_state.md R27, 60_exceptions.md R281).
  Raised by the mode switch and by font select; safe. -/
  | glyphTooLarge
  /-- `SM.Geometry` answered against its contract (60_exceptions.md R281). Raised by the mode switch; safe. -/
  | badGeometry
  /-- `FONT.Metrics` answered against its contract (60_exceptions.md R281). Raised by the mode switch and by font
  select; safe. -/
  | badMetrics
  /-- the parameters give this mode no geometry. Raised by startup with a default mode that is not supported
  (70_reset_and_hazards.md R293); safe. -/
  | noGeometry
  /-- the `SubCmd` parameter gives this number two kinds (60_exceptions.md R281). Raised by VDU 23; safe. -/
  | ambiguousSubCmd (n : Byte)
  /-- a byte or a tick arrives before startup has completed (70_reset_and_hazards.md R293). Raised by the turns
  `byteIn` and `tick`; safe. No other turn is refused there (log 22). -/
  | beforeStartup
deriving DecidableEq, Repr

/-- The three outcomes of a step of this machine. -/
abbrev Result := Host.Outcome State Fault Refusal

/-! ### Reset -/

/-- The VDU 4 binding of the nine mutable entries (40_framer_dispatch.md R108). -/
def textBindings : Bindings where
  h8 := .tleft
  h9 := .tright
  h10 := .tdown
  h11 := .tup
  h12 := .cls
  h13 := .tcr
  h30 := .thome
  h31 := .ttab
  h127 := .tdel

/-- The state after the startup sequence on a platform (70_reset_and_hazards.md R291; the reset column of 10_state.md
R45), with the requests startup issued in the trace (95_test_vectors.md section 0). A platform whose default mode is not
supported has no reset state (70_reset_and_hazards.md R293); this definition then gives an all-zero geometry.
Neither table gives a value for these: `reinit` (DESIGN CHOICE false, log 15); how many `WAIT_VSYNC` callers are held
(DESIGN CHOICE none, log 20); the schedule (DESIGN CHOICE empty, log 5); the answers collaborators are to give (DESIGN CHOICE
none, log 8 and log 9); where the consumer stands (DEDUCED idle, and no tick pending: startup precedes the first `TICK`,
log 6). -/
def State.resetOn (p : Params) : State :=
  let row : ModeRow := (p.modes.find? fun m => m.number == p.defaultMode).getD default
  let g := row.geometry
  let w := g.w.toNat
  let h := g.h.toNat
  let fw := p.font.fw.toNat
  let fh := p.font.fh.toNat
  let c := row.colours
  { params := p
    queue := { buf := [], w := 0, r := 0, count := 0 }
    framer := { state := .awaitingOpcode, exp := 0, cnt := 0, handler := none,
                buf := (List.range 10).map fun i => p.ffill.getD i 0 }
    dt := textBindings
    vdu5 := false
    scr := { mode := .builtin p.defaultMode, w := w, h := h, bpp := g.bpp.toNat, eigx := g.eigx.toNat,
             eigy := g.eigy.toNat, ncol := g.ncol.toNat, fw := fw, fh := fh }
    tw := { l := 0, b := h / fh - 1, r := w / fw - 1, t := 0 }
    gw := { l := 0, b := 0, r := (BitVec.ofNat 32 w <<< g.eigx.toNat) - 1, t := (BitVec.ofNat 32 h <<< g.eigy.toNat) - 1 }
    org := ⟨0, 0⟩
    txt := ⟨0, 0⟩
    ed := ⟨0, 0⟩
    edit := false
    g0 := ⟨0, 0⟩
    g1 := ⟨0, 0⟩
    g2 := ⟨0, 0⟩
    col := { tfg := c.tfg &&& 0x3F, tbg := c.tbg &&& 0x3F, gfg := c.gfg &&& 0x3F, gbg := c.gbg &&& 0x3F,
             gfgAct := 0, gbgAct := 0 }
    cursorEnabled := true
    fcVisible := false
    bcVisible := false
    vsync := false
    sprSel := 0
    blinkCnt := 0
    flashCnt := 0
    reinit := false
    agents := { consumer := .idle, tickPending := false, waiters := 0, sched := [] }
    collab := { font := p.font, fontParams := List.replicate 8 none, fontAnswers := [], geometryAnswers := [], free := 0 }
    trace :=
      [.request (.smInit (.builtin p.defaultMode) none), .request .smResetPixels, .request .smGeometry,
       .request .fontMetrics, .request .smResetColours,
       .request (.smClearArea
         { x0 := 0, y0 := BitVec.ofNat 32 h - BitVec.ofNat 32 (h / fh) * BitVec.ofNat 32 fh,
           x1 := BitVec.ofNat 32 (w / fw) * BitVec.ofNat 32 fw - 1, y1 := BitVec.ofNat 32 h - 1 }
         (c.tbg &&& 0x3F) 0),
       .request .dpClearSprites] }

/-- The machine right after reset, on the platform of log 1. -/
def State.reset : State := State.resetOn Config.platform

end Sys2Proof.Machine
end

