-- ==== Sys2Proof/Machine/Ops.lean ====
section
/-! DEFINITION. The named operations the meanings share: recording a transaction, recording an outcome (the block's only
"exception": 60_exceptions.md R260, nothing is saved and nothing is returned from), the queue buffer (20_memory.md R60),
`enqueue` and `pop` (R62, R63), the failure text (44_mode_ext.md R233), a collaborator's next answer, and text geometry
(10_state.md R27). -/

namespace Sys2Proof.Machine

/-! ### Sequencing -/

/-- Go on with `f` from the next state; a fault or a refusal stops. -/
def andThen (o : Result) (f : State → Result) : Result :=
  match o with
  | .next s => f s
  | .fault r => .fault r
  | .refused r => .refused r

/-! ### Recording -/

/-- Append one transaction to the trace (log 4). -/
def State.emit (s : State) (e : Event) : State := { s with trace := s.trace ++ [e] }

/-- `Call SM/DP/FONT.Op(args)`: issue a request that completes at once (00_scope.md R10, R12). -/
def State.request (s : State) (r : Request) : State := s.emit (.request r)

/-- `raise <Outcome>(info)` (00_scope.md R12): record one of the four outcomes of 60_exceptions.md R260. No outcome
transfers control or stops the framer; its effect on state is that of the rule that raises it. -/
def State.raise (s : State) (o : Raised) : State := s.emit (.outcome o)

/-- The outcome codes of 60_exceptions.md R260. -/
def Raised.code : Raised → Nat
  | .rejected _ => 1
  | .unsupportedMode _ => 2
  | .unknownSub _ => 3
  | .queueOverflow _ => 4

/-! ### The consumer's place -/

/-- Move the consumer to its next place in `Tick()` (60_exceptions.md R265). -/
def State.setConsumer (s : State) (c : Consumer) : State := { s with agents := { s.agents with consumer := c } }

/-! ### Cursor writes -/

/-- Write the text cursor (10_state.md R31). -/
def State.setTxt (s : State) (p : TextPos) : State := { s with txt := p }

/-- Write the edit cursor (10_state.md R32). -/
def State.setEd (s : State) (p : TextPos) : State := { s with ed := p }

/-- Write the current graphics cursor only (10_state.md R33). -/
def State.setG0 (s : State) (p : Point) : State := { s with g0 := p }

/-! ### The queue buffer -/

/-- What an unlisted slot of the queue buffer reads as: its power-on byte (10_state.md R45; log 2). -/
def slotFill (p : Params) (i : Nat) : Byte := p.qfill.getD i 0

/-- The byte at an index, where an unlisted index reads as `fill`. -/
def Memory.read (fill : Nat → Byte) : Memory → Nat → Byte
  | [], a => fill a
  | (k, v) :: m, a => if a = k then v else Memory.read fill m a

/-- List one byte in front, unless it is what the unlisted index reads as. -/
def Memory.put (fill : Nat → Byte) (a : Nat) (v : Byte) (m : Memory) : Memory := if v = fill a then m else (a, v) :: m

/-- Write one byte, keeping the canonical form. -/
def Memory.write (fill : Nat → Byte) : Memory → Nat → Byte → Memory
  | [], a, v => Memory.put fill a v []
  | (k, w) :: m, a, v =>
    if a < k then Memory.put fill a v ((k, w) :: m)
    else if a = k then Memory.put fill a v m
    else (k, w) :: Memory.write fill m a v

/-- The canonical form: indexes strictly rising, and no entry equal to what its index reads as unlisted. -/
abbrev Memory.wf (fill : Nat → Byte) (m : Memory) : Prop :=
  (m.Pairwise fun a b => a.1 < b.1) ∧ ∀ e ∈ m, e.2 ≠ fill e.1

/-- `MemRead(i, 1)` (00_scope.md R12), for an index of the buffer. -/
def State.slot (s : State) (i : Nat) : Byte := s.queue.buf.read (slotFill s.params) i

/-- `enqueue(b)` (20_memory.md R62). The write cursor must name a slot of the buffer (R60). -/
def enqueue (b : Byte) (s : State) : Result :=
  let q := s.queue
  let cap := s.params.qcap
  if q.w < cap then
    let buf := q.buf.write (slotFill s.params) q.w b
    let w := (q.w + 1) % cap
    if q.count = cap then
      .next ({ s with queue := { buf := buf, w := w, r := (q.r + 1) % cap, count := q.count } }.raise (.queueOverflow b))
    else
      .next { s with queue := { buf := buf, w := w, r := q.r, count := q.count + 1 } }
  else .fault (.queueIndex q.w)

/-- Several `enqueue` steps in order (00_scope.md R9, `write_string`). -/
def enqueueAll (bs : List Byte) (s : State) : Result :=
  match bs with
  | [] => .next s
  | b :: rest => andThen (enqueue b s) (enqueueAll rest)

/-- `ReportFailure()` (44_mode_ext.md R233): the failure text goes to the queue's tail (20_memory.md R75). -/
def reportFailure (s : State) : Result := enqueueAll failureText s

/-- What a pop answers: the byte with the state after it, or the fault. -/
inductive Popped
  | byte (b : Byte) (s : State)
  | fault (r : Fault)
deriving DecidableEq, Repr

/-- `pop()` (20_memory.md R63), performed only while `qcount > 0`. The read cursor must name a slot of the buffer (R60). -/
def pop (s : State) : Popped :=
  let q := s.queue
  if q.r < s.params.qcap then
    .byte (s.slot q.r)
      { s with queue := { buf := q.buf, w := q.w, r := (q.r + 1) % s.params.qcap, count := q.count - 1 } }
  else .fault (.queueIndex q.r)

/-! ### Collaborator answers -/

/-- The answer at the front of a list of answers, or the free value when the list is empty, and the answers left. -/
def nextAnswer {α : Type} (answers : List α) (free : α) : α × List α :=
  match answers with
  | [] => (free, [])
  | a :: rest => (a, rest)

/-- The contract of `SM.Geometry` (60_exceptions.md R281, 10_state.md R26): W and H positive, nothing negative (log 12). -/
def geometryOk (g : Geometry) : Bool :=
  0 < g.w.toInt && 0 < g.h.toInt && 0 ≤ g.bpp.toInt && 0 ≤ g.eigx.toInt && 0 ≤ g.eigy.toInt && 0 ≤ g.ncol.toInt

/-- The contract of `FONT.Metrics` (10_state.md R26): each at least 1 (log 12). -/
def metricsOk (m : Metrics) : Bool := 0 < m.fw.toInt && 0 < m.fh.toInt

/-- The Font collaborator's parameters after a select: the sentinel leaves a parameter as it was, every other byte is
applied (44_mode_ext.md R243, 60_exceptions.md R263). -/
def applyFontParams (old : List (Option Byte)) (d : List Byte) : List (Option Byte) :=
  List.zipWith (fun o b => if b = ignoreByte then o else some b) old d

/-- The metrics a `FONT.Select` leaves active where no answer was given, for the parameters it leaves: any that keep the
contract and fit the screen (60_exceptions.md R281 gives no others a meaning). Where the free value is none of these, the
least such answer. -/
def State.freeFont (s : State) (ps : List (Option Byte)) : Metrics :=
  let m := Config.freeMetrics s.collab.free ps
  if metricsOk m && (m.fw.toNat ≤ s.scr.w && m.fh.toNat ≤ s.scr.h) then m else ⟨1, 1⟩

/-- The geometry of a custom mode where no answer was given: any that keeps the contract and holds one glyph
(60_exceptions.md R281). Where the free value is none of these, a screen of one glyph. -/
def State.freeMode (s : State) (d : List Byte) : Geometry :=
  let g := Config.freeGeometry s.collab.free d
  let m := s.collab.font
  if geometryOk g && (m.fw.toNat ≤ g.w.toNat && m.fh.toNat ≤ g.h.toNat) then g
  else { w := m.fw, h := m.fh, bpp := 0, eigx := 0, eigy := 0, ncol := 0 }

/-- `FONT.Select(bytes)` in the Font collaborator (44_mode_ext.md R243, 60_exceptions.md R263): where every byte is the
sentinel, every parameter, and so the font in force, stays as it was. Else the parameters that are not skipped are applied,
and the metrics of the font then active are the next answer, or a free value (log 8). -/
def State.selectFont (d : List Byte) (s : State) : State :=
  if d.all fun b => b == ignoreByte then s
  else
    let ps := applyFontParams s.collab.fontParams d
    let a := nextAnswer s.collab.fontAnswers (s.freeFont ps)
    { s with collab :=
      { s.collab with font := a.1, fontParams := ps, fontAnswers := a.2, free := s.collab.free + 1 } }

/-- The default font active again, with its own parameters: what a mode switch leaves the Font collaborator with (log 23). -/
def State.defaultFont (s : State) : State :=
  { s with collab := { s.collab with font := s.params.font, fontParams := List.replicate fontParamCount none } }

/-- What `SM.Geometry()` answers for a custom mode: the next answer, or a free value (44_mode_ext.md R249; log 9). -/
def State.customGeometry (s : State) (d : List Byte) : Geometry × State :=
  let a := nextAnswer s.collab.geometryAnswers (s.freeMode d)
  (a.1, { s with collab := { s.collab with geometryAnswers := a.2, free := s.collab.free + 1 } })

/-- The requests issued so far that can change what a collaborator shows: all but `SM.ReadChar`, which is a read. -/
def drawnRequests : List Event → List Request
  | [] => []
  | .request (.smReadChar _ _) :: es => drawnRequests es
  | .request r :: es => r :: drawnRequests es
  | _ :: es => drawnRequests es

/-- What `SM.ReadChar(col, row)` answers: a free value of the cell and of the requests before it (60_exceptions.md R274;
log 10). It changes nothing, and asked again at once it answers the same (20_memory.md R68, R69). -/
def State.readChar (s : State) (p : TextPos) : Byte := freeChar (drawnRequests s.trace) p

/-! ### Text geometry -/

/-- `TW = W div FW` (10_state.md R27). -/
def textCols (c : Screen) : Nat := c.w / c.fw

/-- `TH = H div FH` (10_state.md R27). -/
def textRows (c : Screen) : Nat := c.h / c.fh

end Sys2Proof.Machine
end

