-- ==== Sys2Proof/Machine/Coords.lean ====
section
/-! DEFINITION. Coordinates: the cell-to-pixel map (41_cursor.md R130), the external-to-internal transform and the clip
rectangle (42_window_graphics.md R180, R182), the glyph step (41_cursor.md R145). All of it is signed 32-bit arithmetic
that wraps (R183). -/

namespace Sys2Proof.Machine

/-- A count as a 32-bit word. -/
def toWord (n : Nat) : Word := BitVec.ofNat 32 n

/-- `CellRect(l, t, r, b)` (41_cursor.md R130), here with the window's own field order. -/
def cellRect (c : Screen) (w : TextWindow) : Rect where
  x0 := toWord w.l * toWord c.fw
  y0 := toWord c.h - (toWord w.b + 1) * toWord c.fh
  x1 := (toWord w.r + 1) * toWord c.fw - 1
  y1 := toWord c.h - toWord w.t * toWord c.fh - 1

/-- `Cell(col, row)` (41_cursor.md R130). -/
def cellAt (c : Screen) (p : TextPos) : Rect := cellRect c { l := p.x, b := p.y, r := p.x, t := p.y }

/-- The pixels of the text window. -/
def textArea (s : State) : Rect := cellRect s.scr s.tw

/-- An x coordinate in internal units: arithmetic shift by EIGX (42_window_graphics.md R180). -/
def intX (s : State) (x : Word) : Word := x.sshiftRight s.scr.eigx

/-- A y coordinate in internal units: arithmetic shift by EIGY (42_window_graphics.md R180). -/
def intY (s : State) (y : Word) : Word := y.sshiftRight s.scr.eigy

/-- `ToInt(x, y)` (42_window_graphics.md R180). -/
def toInternal (s : State) (p : Point) : Point := ⟨intX s p.x, intY s p.y⟩

/-- `GClip()` (42_window_graphics.md R182). -/
def gclip (s : State) : Rect where
  x0 := intX s s.gw.l
  y0 := intY s s.gw.b
  x1 := intX s s.gw.r
  y1 := intY s s.gw.t

/-- `W << EIGX`, the external width of the screen (42_window_graphics.md R180). -/
def extWidth (c : Screen) : Word := toWord c.w <<< c.eigx

/-- `H << EIGY`, the external height of the screen (42_window_graphics.md R180). -/
def extHeight (c : Screen) : Word := toWord c.h <<< c.eigy

/-- `DX = FW << EIGX` (41_cursor.md R145). -/
def stepX (s : State) : Word := toWord s.scr.fw <<< s.scr.eigx

/-- `DY = FH << EIGY` (41_cursor.md R145). -/
def stepY (s : State) : Word := toWord s.scr.fh <<< s.scr.eigy

end Sys2Proof.Machine
end

