-- ==== Sys2Proof/Machine/Operands.lean ====
section
/-! DEFINITION. The operand forms (30_encoding.md R83 to R88): sign extension of 16-bit operands, the colour byte, the
plot code, the VDU 23 sub-command number, the VDU 27 escaped byte, the mode number; and the text
geometry a model assumes (10_state.md R27). -/

namespace Sys2Proof.Machine

/-- A 16-bit operand sign-extended to 32 bits (30_encoding.md R84). -/
def sext16 (x : Half) : Word := x.signExtend 32

/-! ### Colour bytes -/

/-- `c[7]`: 0 selects the foreground, 1 the background (30_encoding.md R85). -/
def selectsBackground (c : Byte) : Bool := c.getLsbD 7

/-- Write bits 5:0 of a colour register from a colour byte, keeping the tint (43_colour.md R211). -/
def withIndex (reg c : Byte) : Byte := (reg &&& tintMask) ||| (c &&& indexMask)

/-- Write bits 7:6 of a colour register, keeping the index (43_colour.md R217). -/
def withTint (reg v : Byte) : Byte := (reg &&& indexMask) ||| (v &&& tintMask)

/-- `PhysColour(p, r, g, b)` (43_colour.md R214): red, green, blue. -/
def physColour (p r g b : Byte) : Byte × Byte × Byte :=
  if p.toNat < 16 then
    if p = 8 then (greyLevel, greyLevel, greyLevel)
    else
      let i := if p.getLsbD 3 then fullIntensity else halfIntensity
      (if p.getLsbD 0 then i else 0, if p.getLsbD 1 then i else 0, if p.getLsbD 2 then i else 0)
  else (r, g, b)

/-! ### Plot codes -/

/-- `k[7:3]`, the shape tag (30_encoding.md R86). -/
def plotShape (k : Byte) : BitVec 5 := k.extractLsb' 3 5

/-- `k[2]`: absolute coordinates (30_encoding.md R86). -/
def plotAbsolute (k : Byte) : Bool := k.getLsbD 2

/-- `k[1:0]`, the colour selection (30_encoding.md R86). -/
def plotSel (k : Byte) : BitVec 2 := k.extractLsb' 0 2

/-- `PlotColour(cs)` for cs = 1, 2, 3 (42_window_graphics.md R186): colour and action. -/
def plotColour (c : Colours) (cs : BitVec 2) : Byte × Byte :=
  if cs = 1 then (c.gfg, c.gfgAct)
  else if cs = 2 then (c.gfg, actInvert)
  else (c.gbg, c.gbgAct)

/-! ### VDU 23 and VDU 27 operands -/

/-- The kinds the parameter map gives a sub-command number below 32. -/
def listedKinds (p : Params) (n : Byte) : List SubKind := (p.subCmd.filter fun e => e.1 == n).map fun e => e.2

/-- `SubCmd(n)` (30_encoding.md R87, 44_mode_ext.md R240): `none` where the map names one number with two kinds
(60_exceptions.md R281). -/
def subKind (p : Params) (n : Byte) : Option SubKind :=
  if 32 ≤ n.toNat then some .defineGlyph
  else
    match listedKinds p n with
    | [] => some .unknown
    | k :: ks => if ks.all fun j => j == k then some k else none

/-- The directions of the edit-cursor keys (41_cursor.md R158). -/
inductive EditDir
  | left
  | right
  | down
  | up
deriving DecidableEq, Repr

/-- Which edit-cursor key an escaped byte is, tested in the order of 41_cursor.md R156. -/
def editDir (k : EditKeys) (e : Byte) : Option EditDir :=
  if e = k.left then some .left
  else if e = k.right then some .right
  else if e = k.down then some .down
  else if e = k.up then some .up
  else none

/-! ### Modes -/

/-- The parameters of a supported built-in mode (44_mode_ext.md R231); `none` when it is not supported. -/
def modeRow (p : Params) (n : Byte) : Option ModeRow := p.modes.find? fun m => m.number == n

/-- `DefaultColours(mode)` (43_colour.md R216; log 26). -/
def defaultColours (p : Params) (m : ModeId) : DefColours :=
  match m with
  | .builtin n =>
    match modeRow p n with
    | some row => row.colours
    | none => p.customColours
  | _ => p.customColours

/-- Text geometry a model assumes (10_state.md R27): at least one column and one row. -/
def gridOk (c : Screen) : Bool := 0 < textCols c && 0 < textRows c

end Sys2Proof.Machine
end

