-- ==== Sys2Proof/Machine/Flags.lean ====
section
/-! DEFINITION. The flags (10_state.md R36 to R39) and what is done with them. No flag is set by arithmetic (R47). The
XOR-painted cursors: their rectangles, their toggles, and the hide and restore around every command (41_cursor.md R159
to R163). -/

namespace Sys2Proof.Machine

/-- `FCPos()` (41_cursor.md R160): the edit cursor while editing, else the text cursor. -/
def flashPos (s : State) : TextPos := if s.edit then s.ed else s.txt

/-- `FCRect()` (41_cursor.md R160): the bottom rows of the backing cell. -/
def flashRect (s : State) : Rect :=
  let c := cellAt s.scr (flashPos s)
  { c with y1 := c.y0 + toWord (flashHeight s.scr.fh) - 1 }

/-- `BCRect()` (41_cursor.md R161): the whole text-cursor cell. -/
def blockRect (s : State) : Rect := cellAt s.scr s.txt

/-- `ToggleFC()` (41_cursor.md R160). -/
def toggleFlash (s : State) : State :=
  let s' := s.request (.smXorCell (flashRect s))
  { s' with fcVisible := !s.fcVisible }

/-- `ToggleBC()` (41_cursor.md R161). -/
def toggleBlock (s : State) : State :=
  let s' := s.request (.smXorCell (blockRect s))
  { s' with bcVisible := !s.bcVisible }

/-- `CursorHide()` (41_cursor.md R162), the state part; the answer `vis` is `fcVisible` before it. -/
def cursorHide (s : State) : State :=
  let s1 := if s.fcVisible then toggleFlash s else s
  if s1.bcVisible then toggleBlock s1 else s1

/-- `CursorRestore(vis)` (41_cursor.md R163): nothing after a mode switch; otherwise both cursors are shown as they
stand now. `reinit` is consumed (log 15). -/
def cursorRestore (vis : Bool) (s : State) : State :=
  if s.reinit then { s with reinit := false }
  else
    let s1 := if vis && s.cursorEnabled then toggleFlash s else s
    if s1.edit then toggleBlock s1 else s1

/-- `VSYNC` (60_exceptions.md R276). -/
def setVsync (s : State) : State := { s with vsync := true }

/-- The step of a `WAIT_VSYNC` caller that finds the flag set: clear it and acknowledge (60_exceptions.md R277). -/
def takeVsync (s : State) : State := { s with vsync := false }.emit .vsyncAck

end Sys2Proof.Machine
end

