-- ==== Sys2Proof/Machine/TextCursor.lean ====
section
/-! DEFINITION. The text cursor: its motion primitives (41_cursor.md R131 to R134) and the VDU 4 meanings of opcodes
8 to 13, 30, 31 and 127 (R136 to R144). -/

namespace Sys2Proof.Machine

/-! ### Primitives -/

/-- `TextDown()` (41_cursor.md R131): down one row, or scroll the text window up at its bottom row. -/
def textDown (s : State) : State :=
  if s.txt.y < s.tw.b then s.setTxt ⟨s.txt.x, s.txt.y + 1⟩
  else s.request (.smScroll (textArea s) .up s.col.tbg)

/-- `TextUp()` (41_cursor.md R132): up one row, or scroll the text window down at its top row. -/
def textUp (s : State) : State :=
  if s.tw.t < s.txt.y then s.setTxt ⟨s.txt.x, s.txt.y - 1⟩
  else s.request (.smScroll (textArea s) .down s.col.tbg)

/-- `TextRight()` (41_cursor.md R133). -/
def textRight (s : State) : State :=
  if s.txt.x < s.tw.r then s.setTxt ⟨s.txt.x + 1, s.txt.y⟩
  else textDown (s.setTxt ⟨s.tw.l, s.txt.y⟩)

/-- `TextLeft()` (41_cursor.md R134). -/
def textLeft (s : State) : State :=
  if s.tw.l < s.txt.x then s.setTxt ⟨s.txt.x - 1, s.txt.y⟩
  else textUp (s.setTxt ⟨s.tw.r, s.txt.y⟩)

/-- The body of `H_CLS` (41_cursor.md R140), also step (e) of a mode switch: clear the text area and home. -/
def clearText (s : State) : State :=
  (s.request (.smClearArea (textArea s) s.col.tbg actReplace)).setTxt ⟨s.tw.l, s.tw.t⟩

/-! ### Meanings -/

/-- VDU 8, text binding (41_cursor.md R136). -/
def execLeft (s : State) : Result := .next (textLeft s)

/-- VDU 9, text binding (41_cursor.md R137). -/
def execRight (s : State) : Result := .next (textRight s)

/-- VDU 10, text binding (41_cursor.md R138). -/
def execDown (s : State) : Result := .next (textDown s)

/-- VDU 11, text binding (41_cursor.md R139). -/
def execUp (s : State) : Result := .next (textUp s)

/-- VDU 12, text binding (41_cursor.md R140). -/
def execCls (s : State) : Result := .next (clearText s)

/-- VDU 13, text binding (41_cursor.md R141). -/
def execCr (s : State) : Result := .next (s.setTxt ⟨s.tw.l, s.txt.y⟩)

/-- VDU 30, text binding (41_cursor.md R142). -/
def execHome (s : State) : Result := .next (s.setTxt ⟨s.tw.l, s.tw.t⟩)

/-- VDU 31, text binding (41_cursor.md R143): relative to the window's top-left, ignored outside the window. -/
def execTab (x y : Byte) (s : State) : Result :=
  let nx := s.tw.l + x.toNat
  let ny := s.tw.t + y.toNat
  if nx ≤ s.tw.r ∧ ny ≤ s.tw.b then .next (s.setTxt ⟨nx, ny⟩)
  else .next (s.raise (.rejected .tab))

/-- VDU 127, text binding (41_cursor.md R144): back one cell, which a space erases. -/
def execDel (s : State) : Result :=
  let s1 := textLeft s
  .next (s1.request (.smWriteChar spaceChar s1.txt.x s1.txt.y s1.col.tfg s1.col.tbg))

end Sys2Proof.Machine
end

