-- ==== Sys2Proof/Machine/Window.lean ====
section
/-! DEFINITION. Windows, origin and PLOT (42_window_graphics.md R184 to R191): VDU 16, 24, 25, 26, 28, 29, and the
re-clamp after a font change. -/

namespace Sys2Proof.Machine

/-- `ClearGraphics()` (42_window_graphics.md R184). -/
def clearGraphics (s : State) : State := s.request (.smClearArea (gclip s) s.col.gbg s.col.gbgAct)

/-- VDU 16 (42_window_graphics.md R184). -/
def execClg (s : State) : Result := .next (clearGraphics s)

/-- `GWValid(L, B, R, T)` (42_window_graphics.md R187), signed comparisons. -/
def gwValid (c : Screen) (w : GfxWindow) : Bool :=
  w.l.toInt < w.r.toInt && w.b.toInt < w.t.toInt &&
  (0 ≤ w.l.toInt && w.r.toInt < (extWidth c).toInt) &&
  (0 ≤ w.b.toInt && w.t.toInt < (extHeight c).toInt)

/-- VDU 24 (42_window_graphics.md R187): the operands are relative to the origin, the stored window is absolute. -/
def execGwindow (l b r t : Half) (s : State) : Result :=
  let w : GfxWindow :=
    { l := sext16 l + s.org.x, b := sext16 b + s.org.y, r := sext16 r + s.org.x, t := sext16 t + s.org.y }
  if gwValid s.scr w then .next { s with gw := w }
  else .next (s.raise (.rejected .gwindow))

/-- The point a PLOT moves to (42_window_graphics.md R185): relative to the origin or to the last point. -/
def plotTarget (k : Byte) (x y : Half) (s : State) : Point :=
  if plotAbsolute k then ⟨s.org.x + sext16 x, s.org.y + sext16 y⟩
  else ⟨s.g0.x + sext16 x, s.g0.y + sext16 y⟩

/-- Push a point into the three-point history (42_window_graphics.md R185). -/
def pushPoint (p : Point) (s : State) : State := { s with g2 := s.g1, g1 := s.g0, g0 := p }

/-- VDU 25 (42_window_graphics.md R185): push the history; draw unless `k[1:0] = 0`. -/
def execPlot (k : Byte) (x y : Half) (s : State) : Result :=
  let s1 := pushPoint (plotTarget k x y s) s
  let cs := plotSel k
  if cs = 0 then .next s1
  else
    let ca := plotColour s1.col cs
    .next (s1.request (.dpPlot (plotShape k) cs ca.1 ca.2 (toInternal s1 s1.g0) (toInternal s1 s1.g1)
      (toInternal s1 s1.g2) (gclip s1) s1.sprSel))

/-- The body of `H_DEFWIN` (42_window_graphics.md R190), also part of step (d) of a mode switch. -/
def defaultWindows (s : State) : State :=
  { s with
    tw := { l := 0, b := textRows s.scr - 1, r := textCols s.scr - 1, t := 0 }
    gw := { l := 0, b := 0, r := extWidth s.scr - 1, t := extHeight s.scr - 1 }
    org := ⟨0, 0⟩
    txt := ⟨0, 0⟩
    g0 := ⟨0, 0⟩ }

/-- VDU 26 (42_window_graphics.md R190). -/
def execDefwin (s : State) : Result := .next (defaultWindows s)

/-- The text window is legal for the grid (10_state.md R28, 42_window_graphics.md R188). -/
def twValid (c : Screen) (w : TextWindow) : Bool :=
  w.l ≤ w.r && w.r < textCols c && (w.t ≤ w.b && w.b < textRows c)

/-- A cell lies inside a text window. -/
def inside (w : TextWindow) (p : TextPos) : Bool := w.l ≤ p.x && p.x ≤ w.r && (w.t ≤ p.y && p.y ≤ w.b)

/-- VDU 28 (42_window_graphics.md R188): a cursor the new window excludes moves to its top-left. -/
def execTwindow (l b r t : Byte) (s : State) : Result :=
  let w : TextWindow := { l := l.toNat, b := b.toNat, r := r.toNat, t := t.toNat }
  let corner : TextPos := ⟨w.l, w.t⟩
  if twValid s.scr w then
    .next { s with
      tw := w
      txt := if inside w s.txt then s.txt else corner
      ed := if s.edit && !inside w s.ed then corner else s.ed }
  else .next (s.raise (.rejected .twindow))

/-- VDU 29 (42_window_graphics.md R189). -/
def execOrigin (x y : Half) (s : State) : Result := .next { s with org := ⟨sext16 x, sext16 y⟩ }

/-- `clamp(v, lo, hi)` (00_scope.md R12). -/
def clamp (v lo hi : Nat) : Nat := min (max v lo) hi

/-- A cell clamped into a text window. -/
def clampInto (w : TextWindow) (p : TextPos) : TextPos := ⟨clamp p.x w.l w.r, clamp p.y w.t w.b⟩

/-- The text window clamped into the grid (42_window_graphics.md R191): right and bottom first, then left and top. -/
def clampWindow (c : Screen) (w : TextWindow) : TextWindow :=
  let r := min w.r (textCols c - 1)
  let b := min w.b (textRows c - 1)
  { l := min w.l r, b := b, r := r, t := min w.t b }

/-- `ReclampText()` (42_window_graphics.md R191), with the glyph size already written. -/
def reclampText (s : State) : State :=
  let w := clampWindow s.scr s.tw
  { s with tw := w, txt := clampInto w s.txt, ed := clampInto w s.ed }

end Sys2Proof.Machine
end

