-- ==== Sys2Proof/Machine/GfxCursor.lean ====
section
/-! DEFINITION. The graphics cursor: its motion primitives (41_cursor.md R145) and the VDU 5 meanings of opcodes 8 to 13,
30, 31 and 127 (R146 to R149, R151 to R155). Comparisons are signed, additions wrap (42_window_graphics.md R183). -/

namespace Sys2Proof.Machine

/-! ### Primitives -/

/-- `GDown()` (41_cursor.md R145). -/
def gfxDown (s : State) : State :=
  let y := s.g0.y - stepY s
  s.setG0 ⟨s.g0.x, if (y - stepY s + 1).toInt < s.gw.b.toInt then s.gw.t else y⟩

/-- `GUp()` (41_cursor.md R145). -/
def gfxUp (s : State) : State :=
  let y := s.g0.y + stepY s
  s.setG0 ⟨s.g0.x, if s.gw.t.toInt < y.toInt then s.gw.b + stepY s - 1 else y⟩

/-- `GRight()` (41_cursor.md R145): wrap to the left edge and down when the next cell would not fit. -/
def gfxRight (s : State) : State :=
  let x := s.g0.x + stepX s
  if s.gw.r.toInt < (x + stepX s - 1).toInt then
    let s1 := gfxDown s
    s1.setG0 ⟨s.gw.l, s1.g0.y⟩
  else s.setG0 ⟨x, s.g0.y⟩

/-- `GLeft()` (41_cursor.md R145): wrap to the rightmost whole cell and up. -/
def gfxLeft (s : State) : State :=
  let x := s.g0.x - stepX s
  if x.toInt < s.gw.l.toInt then
    let s1 := gfxUp s
    s1.setG0 ⟨s.gw.r - stepX s + 1, s1.g0.y⟩
  else s.setG0 ⟨x, s.g0.y⟩

/-! ### Meanings -/

/-- VDU 8, graphics binding (41_cursor.md R146). -/
def execGleft (s : State) : Result := .next (gfxLeft s)

/-- VDU 9, graphics binding (41_cursor.md R147). -/
def execGright (s : State) : Result := .next (gfxRight s)

/-- VDU 10, graphics binding (41_cursor.md R148). -/
def execGdown (s : State) : Result := .next (gfxDown s)

/-- VDU 11, graphics binding (41_cursor.md R149). -/
def execGup (s : State) : Result := .next (gfxUp s)

/-- VDU 12, graphics binding (41_cursor.md R151): clear the graphics area and home. -/
def execGcls (s : State) : Result := .next ((clearGraphics s).setG0 ⟨s.gw.l, s.gw.t⟩)

/-- VDU 13, graphics binding (41_cursor.md R152). -/
def execGcr (s : State) : Result := .next (s.setG0 ⟨s.gw.l, s.g0.y⟩)

/-- VDU 30, graphics binding (41_cursor.md R153). -/
def execGhome (s : State) : Result := .next (s.setG0 ⟨s.gw.l, s.gw.t⟩)

/-- VDU 31, graphics binding (41_cursor.md R154): in glyph cells from the window's top-left, ignored if it does not fit. -/
def execGtab (x y : Byte) (s : State) : Result :=
  let nx := s.gw.l + x.zeroExtend 32 * stepX s
  let ny := s.gw.t - y.zeroExtend 32 * stepY s
  if (nx + stepX s - 1).toInt ≤ s.gw.r.toInt ∧ s.gw.b.toInt ≤ (ny - stepY s + 1).toInt then .next (s.setG0 ⟨nx, ny⟩)
  else .next (s.raise (.rejected .tab))

/-- The glyph cell whose top-left corner is the graphics cursor, in internal units (41_cursor.md R145, R155). -/
def gfxCell (s : State) : Rect where
  x0 := intX s s.g0.x
  y0 := intY s (s.g0.y - stepY s + 1)
  x1 := intX s (s.g0.x + stepX s - 1)
  y1 := intY s s.g0.y

/-- VDU 127, graphics binding (41_cursor.md R155): back one cell, filled with the graphics background. -/
def execGdel (s : State) : Result :=
  let s1 := gfxLeft s
  .next (s1.request (.dpFillRect (gfxCell s1) s1.col.gbg s1.col.gbgAct (gclip s1)))

end Sys2Proof.Machine
end

