-- ==== Sys2Proof/Machine/Printing.lean ====
section
/-! DEFINITION. Printing (41_cursor.md R150), VDU 27 (R156) and the edit cursor (R157, R158). -/

namespace Sys2Proof.Machine

/-- `PaintAt(c)` (41_cursor.md R150): paint the glyph at the active cursor and advance it. -/
def paintAt (c : Byte) (s : State) : State :=
  if s.vdu5 then
    gfxRight (s.request (.dpPaintGlyph c (intX s s.g0.x) (intY s s.g0.y) s.col.gfg s.col.gfgAct (gclip s)))
  else textRight (s.request (.smWriteChar c s.txt.x s.txt.y s.col.tfg s.col.tbg))

/-- VDU 32 to 126 and 128 to 255 (41_cursor.md R150). -/
def execPrint (c : Byte) (s : State) : Result := .next (paintAt c s)

/-- `EditMove(Down)` (41_cursor.md R158): the edit cursor one row down, top after bottom. -/
def editDown (s : State) : State :=
  s.setEd ⟨s.ed.x, if s.ed.y < s.tw.b then s.ed.y + 1 else s.tw.t⟩

/-- `EditMove(Up)` (41_cursor.md R158): the edit cursor one row up, bottom after top. -/
def editUp (s : State) : State :=
  s.setEd ⟨s.ed.x, if s.tw.t < s.ed.y then s.ed.y - 1 else s.tw.b⟩

/-- `EditMove(dir)` (41_cursor.md R158). It never scrolls. -/
def editMove (d : EditDir) (s : State) : State :=
  match d with
  | .right => if s.ed.x < s.tw.r then s.setEd ⟨s.ed.x + 1, s.ed.y⟩ else editDown (s.setEd ⟨s.tw.l, s.ed.y⟩)
  | .left => if s.tw.l < s.ed.x then s.setEd ⟨s.ed.x - 1, s.ed.y⟩ else editUp (s.setEd ⟨s.tw.r, s.ed.y⟩)
  | .down => editDown s
  | .up => editUp s

/-- Entering edit mode copies the text cursor into the edit cursor (41_cursor.md R157). -/
def enterEdit (s : State) : State := if s.edit then s else { s with edit := true, ed := s.txt }

/-- `EditKey(dir)` (41_cursor.md R157). -/
def editKey (d : EditDir) (s : State) : State := editMove d (enterEdit s)

/-- VDU 27 (41_cursor.md R156): an edit-cursor key, or a literal glyph. -/
def execEsc (e : Byte) (s : State) : Result :=
  match editDir s.params.editKeys e with
  | some d => .next (editKey d s)
  | none => .next (paintAt e s)

end Sys2Proof.Machine
end

