-- ==== Sys2Proof/Machine/Colour.lean ====
section
/-! DEFINITION. Colour and plot state: VDU 17, 18, 19, 20 (43_colour.md R211 to R216) and the tint write (R217). -/

namespace Sys2Proof.Machine

/-- VDU 17 (43_colour.md R211). -/
def execColour (c : Byte) (s : State) : Result :=
  if selectsBackground c then .next { s with col := { s.col with tbg := withIndex s.col.tbg c } }
  else .next { s with col := { s.col with tfg := withIndex s.col.tfg c } }

/-- VDU 18 (43_colour.md R212). -/
def execGcol (k c : Byte) (s : State) : Result :=
  if selectsBackground c then .next { s with col := { s.col with gbg := withIndex s.col.gbg c, gbgAct := k } }
  else .next { s with col := { s.col with gfg := withIndex s.col.gfg c, gfgAct := k } }

/-- VDU 19 (43_colour.md R213). -/
def execPalette (l p r g b : Byte) (s : State) : Result :=
  let rgb := physColour p r g b
  .next (s.request (.smSetColour l rgb.1 rgb.2.1 rgb.2.2))

/-- `ColourDefaults()` (43_colour.md R216). -/
def colourDefaults (s : State) : State :=
  let d := defaultColours s.params s.scr.mode
  { s.request .smResetColours with
    col := { tfg := d.tfg &&& indexMask, tbg := d.tbg &&& indexMask, gfg := d.gfg &&& indexMask,
             gbg := d.gbg &&& indexMask, gfgAct := actReplace, gbgAct := actReplace } }

/-- VDU 20 (43_colour.md R215). -/
def execDefcol (s : State) : Result := .next (colourDefaults s)

/-- `TintWrite(which, v)` (43_colour.md R217). -/
def tintWrite (which v : Byte) (s : State) : State :=
  match which.toNat with
  | 0 => { s with col := { s.col with tfg := withTint s.col.tfg v } }
  | 1 => { s with col := { s.col with tbg := withTint s.col.tbg v } }
  | 2 => { s with col := { s.col with gfg := withTint s.col.gfg v } }
  | 3 => { s with col := { s.col with gbg := withTint s.col.gbg v } }
  | _ => s

end Sys2Proof.Machine
end

