-- ==== Sys2Proof/Machine/Control.lean ====
section
/-! DEFINITION. VDU 4 and VDU 5, which rebind nine dispatch entries (40_framer_dispatch.md R106 to R108), and the codes
the source gives no meaning, each a no-operation of its own (R110 to R118). -/

namespace Sys2Proof.Machine

/-- The graphics binding of the nine mutable entries (40_framer_dispatch.md R108). -/
def graphicsBindings : Bindings where
  h8 := .gleft
  h9 := .gright
  h10 := .gdown
  h11 := .gup
  h12 := .gcls
  h13 := .gcr
  h30 := .ghome
  h31 := .gtab
  h127 := .gdel

/-- Write the nine mutable entries and `vdu5` together (40_framer_dispatch.md R106, R107). -/
def bindTo (vdu5 : Bool) (s : State) : State :=
  { s with dt := if vdu5 then graphicsBindings else textBindings, vdu5 := vdu5 }

/-- VDU 4 (40_framer_dispatch.md R106). -/
def execVdu4 (s : State) : Result := .next (bindTo false s)

/-- VDU 5 (40_framer_dispatch.md R107). -/
def execVdu5 (s : State) : Result := .next (bindTo true s)

/-- `H_NOP()`: no effect (40_framer_dispatch.md section 3). -/
def noOperation (s : State) : Result := .next s

/-- VDU 0 (40_framer_dispatch.md R110). -/
def execNul (s : State) : Result := noOperation s

/-- VDU 1 (40_framer_dispatch.md R111): the argument is consumed and ignored. -/
def execVdu1 (_a : Byte) (s : State) : Result := noOperation s

/-- VDU 2 (40_framer_dispatch.md R112). -/
def execVdu2 (s : State) : Result := noOperation s

/-- VDU 3 (40_framer_dispatch.md R113). -/
def execVdu3 (s : State) : Result := noOperation s

/-- VDU 6 (40_framer_dispatch.md R114). -/
def execVdu6 (s : State) : Result := noOperation s

/-- VDU 7 (40_framer_dispatch.md R115). -/
def execVdu7 (s : State) : Result := noOperation s

/-- VDU 14 (40_framer_dispatch.md R116). -/
def execVdu14 (s : State) : Result := noOperation s

/-- VDU 15 (40_framer_dispatch.md R117). -/
def execVdu15 (s : State) : Result := noOperation s

/-- VDU 21 (40_framer_dispatch.md R118). -/
def execVdu21 (s : State) : Result := noOperation s

end Sys2Proof.Machine
end

