-- ==== Sys2Proof/Machine/Mode.lean ====
section
/-! DEFINITION. The mode switch (44_mode_ext.md R234, R236), VDU 22 (R232) and the startup sequence
(70_reset_and_hazards.md R291). -/

namespace Sys2Proof.Machine

/-- Steps (a) to (c) of `ModeSwitch` up to the mode number (44_mode_ext.md R234): force the cursors hidden, remap if the
mode changes or is custom, reset the pixels. The default font is then active: R234's example and T64 of
95_test_vectors.md give the reset state from any state, whose FW and FH are the default font's (10_state.md R45; log 23). -/
def beginSwitch (target : ModeId) (params : Option (List Byte)) (s : State) : State :=
  let s1 := { s with fcVisible := false, bcVisible := false }
  let s2 := if target = .custom ∨ target ≠ s.scr.mode then s1.request (.smInit target params) else s1
  (s2.request .smResetPixels).defaultFont

/-- What `SM.Geometry()` answers for a mode (00_scope.md R13): the parameter for a built-in mode, the collaborator's
answer for a custom one; none where no parameter gives one. -/
def geometryAnswer (target : ModeId) (params : Option (List Byte)) (s : State) : Option (Geometry × State) :=
  match target with
  | .builtin n =>
    match modeRow s.params n with
    | some row => some (row.geometry, s)
    | none => none
  | .custom => some (s.customGeometry (params.getD []))
  | .noMode => none

/-- Write the mode registers (10_state.md R26) from the collaborators' answers. -/
def loadScreen (target : ModeId) (g : Geometry) (s : State) : State :=
  { (s.request .smGeometry).request .fontMetrics with
    scr := { mode := target, w := g.w.toNat, h := g.h.toNat, bpp := g.bpp.toNat, eigx := g.eigx.toNat,
             eigy := g.eigy.toNat, ncol := g.ncol.toNat, fw := s.collab.font.fw.toNat, fh := s.collab.font.fh.toNat } }

/-- `CursorDefaults()` (44_mode_ext.md R236). -/
def cursorDefaults (s : State) : State :=
  { bindTo false s with
    edit := false
    ed := ⟨0, 0⟩
    cursorEnabled := true
    g1 := ⟨0, 0⟩
    g2 := ⟨0, 0⟩
    sprSel := 0
    blinkCnt := 0 }

/-- Steps (d) to (f) of `ModeSwitch` (44_mode_ext.md R234). -/
def finishSwitch (s : State) : State :=
  { (clearText (cursorDefaults (colourDefaults (defaultWindows s)))).request .dpClearSprites with reinit := true }

/-- `ModeSwitch(target, params)` (44_mode_ext.md R234). A collaborator answer against its contract, or a glyph larger
than the screen, is refused (60_exceptions.md R281). -/
def modeSwitch (target : ModeId) (params : Option (List Byte)) (s : State) : Result :=
  match geometryAnswer target params (beginSwitch target params s) with
  | none => .refused .noGeometry
  | some (g, s1) =>
    if !geometryOk g then .refused .badGeometry
    else if !metricsOk s1.collab.font then .refused .badMetrics
    else
      let s2 := loadScreen target g s1
      if !gridOk s2.scr then .refused .glyphTooLarge
      else .next (finishSwitch s2)

/-- VDU 22 (44_mode_ext.md R232): an unsupported number is reported and changes no mode. -/
def execMode (n : Byte) (s : State) : Result :=
  match modeRow s.params n with
  | some _ => modeSwitch (.builtin n) none s
  | none => reportFailure (s.raise (.unsupportedMode n))

/-- `Reset()` (70_reset_and_hazards.md R291): the startup sequence. It clears the queue cursors, the framer, the flash
counter, the vsync flag and both cursor flags, forgets the mode, and switches to the default mode. -/
def startup (s : State) : Result :=
  modeSwitch (.builtin s.params.defaultMode) none
    { s with
      queue := { s.queue with r := 0, w := 0, count := 0 }
      framer := { s.framer with state := .awaitingOpcode, exp := 0, cnt := 0 }
      flashCnt := 0
      vsync := false
      scr := { s.scr with mode := .noMode }
      fcVisible := false
      bcVisible := false }

end Sys2Proof.Machine
end

