-- ==== Sys2Proof/Machine/Extended.lean ====
section
/-! DEFINITION. VDU 23 (44_mode_ext.md R240) and its sub-commands (R241, R243, R245 to R249). -/

namespace Sys2Proof.Machine

/-- `DefineGlyph` (44_mode_ext.md R241). -/
def defineGlyph (n : Byte) (d : List Byte) (s : State) : State := s.request (.fontDefineGlyph n d)

/-- `CursorEnable` (44_mode_ext.md R245): on unless d0 is 0. -/
def cursorEnable (d0 : Byte) (s : State) : State := { s with cursorEnabled := d0 != 0 }

/-- Write the glyph size from what `FONT.Metrics()` answers (44_mode_ext.md R243). -/
def loadFont (s : State) : State :=
  { s.request .fontMetrics with
    scr := { s.scr with fw := s.collab.font.fw.toNat, fh := s.collab.font.fh.toNat } }

/-- `FontSelect` (44_mode_ext.md R243): select, read the metrics, re-clamp the text state. A font whose glyph exceeds the
screen is refused (60_exceptions.md R281). -/
def fontSelect (d : List Byte) (s : State) : Result :=
  let s1 := (s.request (.fontSelect d)).selectFont d
  if !metricsOk s1.collab.font then .refused .badMetrics
  else
    let s2 := loadFont s1
    if !gridOk s2.scr then .refused .glyphTooLarge
    else .next (reclampText s2)

/-- `SpriteSelect` (44_mode_ext.md R247). -/
def spriteSelect (d0 : Byte) (s : State) : State := { s with sprSel := d0 }

/-- `SpriteDefine` (44_mode_ext.md R247). -/
def spriteDefine (d : List Byte) (s : State) : State := s.request (.dpDefineSprite s.sprSel d)

/-- `Unknown` (44_mode_ext.md R248): all ten bytes go to the hook. -/
def unknownSub (n : Byte) (d : List Byte) (s : State) : State :=
  (s.request (.smUnknown (23 :: n :: d))).raise (.unknownSub n)

/-- `ModeDefine` (44_mode_ext.md R249). -/
def modeDefine (d : List Byte) (s : State) : Result := modeSwitch .custom (some d) s

/-- The sub-command of a kind (44_mode_ext.md R240), on its number and eight data bytes. -/
def subCommand (k : SubKind) (n d0 d1 : Byte) (d : List Byte) (s : State) : Result :=
  match k with
  | .defineGlyph => .next (defineGlyph n d s)
  | .cursorEnable => .next (cursorEnable d0 s)
  | .tint => .next (tintWrite d0 d1 s)
  | .fontSelect => fontSelect d s
  | .spriteSelect => .next (spriteSelect d0 s)
  | .spriteDefine => .next (spriteDefine d s)
  | .modeDefine => modeDefine d s
  | .unknown => .next (unknownSub n d s)

/-- VDU 23 (44_mode_ext.md R240). A number the parameter map gives two kinds is refused (60_exceptions.md R281). -/
def execVdu23 (n d0 d1 d2 d3 d4 d5 d6 d7 : Byte) (s : State) : Result :=
  match subKind s.params n with
  | some k => subCommand k n d0 d1 [d0, d1, d2, d3, d4, d5, d6, d7] s
  | none => .refused (.ambiguousSubCmd n)

end Sys2Proof.Machine
end

