-- ==== Sys2Proof/Machine/Dispatch.lean ====
section
/-! DEFINITION. The meaning of every instruction: the body of its handler (00_scope.md R15). What goes around a handler,
hiding and restoring the painted cursors (40_framer_dispatch.md R104), stands in Machine/Framer.lean (log 16). -/

namespace Sys2Proof.Machine

def exec (i : Instr) (s : State) : Host.Outcome State Fault Refusal :=
  match i with
  | .nul => Sys2Proof.Machine.execNul s
  | .vdu1 a => Sys2Proof.Machine.execVdu1 a s
  | .vdu2 => Sys2Proof.Machine.execVdu2 s
  | .vdu3 => Sys2Proof.Machine.execVdu3 s
  | .vdu4 => Sys2Proof.Machine.execVdu4 s
  | .vdu5 => Sys2Proof.Machine.execVdu5 s
  | .vdu6 => Sys2Proof.Machine.execVdu6 s
  | .vdu7 => Sys2Proof.Machine.execVdu7 s
  | .left => Sys2Proof.Machine.execLeft s
  | .gleft => Sys2Proof.Machine.execGleft s
  | .right => Sys2Proof.Machine.execRight s
  | .gright => Sys2Proof.Machine.execGright s
  | .down => Sys2Proof.Machine.execDown s
  | .gdown => Sys2Proof.Machine.execGdown s
  | .up => Sys2Proof.Machine.execUp s
  | .gup => Sys2Proof.Machine.execGup s
  | .cls => Sys2Proof.Machine.execCls s
  | .gcls => Sys2Proof.Machine.execGcls s
  | .cr => Sys2Proof.Machine.execCr s
  | .gcr => Sys2Proof.Machine.execGcr s
  | .vdu14 => Sys2Proof.Machine.execVdu14 s
  | .vdu15 => Sys2Proof.Machine.execVdu15 s
  | .clg => Sys2Proof.Machine.execClg s
  | .colour c => Sys2Proof.Machine.execColour c s
  | .gcol k c => Sys2Proof.Machine.execGcol k c s
  | .palette l p r g b => Sys2Proof.Machine.execPalette l p r g b s
  | .defcol => Sys2Proof.Machine.execDefcol s
  | .vdu21 => Sys2Proof.Machine.execVdu21 s
  | .mode n => Sys2Proof.Machine.execMode n s
  | .vdu23 n d0 d1 d2 d3 d4 d5 d6 d7 => Sys2Proof.Machine.execVdu23 n d0 d1 d2 d3 d4 d5 d6 d7 s
  | .gwindow l b r t => Sys2Proof.Machine.execGwindow l b r t s
  | .plot k x y => Sys2Proof.Machine.execPlot k x y s
  | .defwin => Sys2Proof.Machine.execDefwin s
  | .esc e => Sys2Proof.Machine.execEsc e s
  | .twindow l b r t => Sys2Proof.Machine.execTwindow l b r t s
  | .origin x y => Sys2Proof.Machine.execOrigin x y s
  | .home => Sys2Proof.Machine.execHome s
  | .ghome => Sys2Proof.Machine.execGhome s
  | .tab x y => Sys2Proof.Machine.execTab x y s
  | .gtab x y => Sys2Proof.Machine.execGtab x y s
  | .del => Sys2Proof.Machine.execDel s
  | .gdel => Sys2Proof.Machine.execGdel s
  | .print c => Sys2Proof.Machine.execPrint c s

end Sys2Proof.Machine
end

