-- ==== Sys2Proof/Machine/Framer.lean ====
section
/-! DEFINITION. The framer (40_framer_dispatch.md R102), the execution of one complete command (R104), and the placing of
one command where the framer takes it next (log 7). -/

namespace Sys2Proof.Machine

/-- The handler of a dispatch entry (10_state.md R24): the nine mutable entries from `dt`, the others fixed. -/
def dispatchHandler (dt : Bindings) (op : Byte) : Handler :=
  match op.toNat with
  | 8 => dt.h8
  | 9 => dt.h9
  | 10 => dt.h10
  | 11 => dt.h11
  | 12 => dt.h12
  | 13 => dt.h13
  | 30 => dt.h30
  | 31 => dt.h31
  | 127 => dt.h127
  | _ => fixedHandler op

/-- One complete command between `CursorHide` and `CursorRestore` (40_framer_dispatch.md R104). -/
def runCommand (i : Instr) (s : State) : Result :=
  andThen (exec i (cursorHide { s with reinit := false })) fun t => .next (cursorRestore s.fcVisible t)

/-- `execute(h)` (40_framer_dispatch.md R104): the captured handler runs on the scratch buffer. -/
def execute (s : State) : Result :=
  match s.framer.handler with
  | some h => runCommand (decodeHandler h s.framer.buf) s
  | none => .fault .noHandler

/-- `frame(b)` while awaiting an opcode (40_framer_dispatch.md R102). -/
def frameOpcode (b : Byte) (s : State) : Result :=
  let f := s.framer
  let f1 : Framer :=
    { state := .awaitingOpcode, exp := arglen b, cnt := 0, handler := some (dispatchHandler s.dt b), buf := f.buf.set 0 b }
  if arglen b = 0 then execute { s with framer := f1 }
  else .next { s with framer := { f1 with state := .bufferingArgs } }

/-- `frame(b)` while buffering arguments (40_framer_dispatch.md R102). The framer is back in `AwaitingOpcode` before the
handler runs. No argument goes past `fbuf[9]` (R101). -/
def frameArgument (b : Byte) (s : State) : Result :=
  let f := s.framer
  let n := f.cnt + 1
  if n < fbufLen then
    let f1 : Framer := { f with cnt := n, buf := f.buf.set n b }
    if n = f.exp then execute { s with framer := { f1 with state := .awaitingOpcode } }
    else .next { s with framer := f1 }
  else .fault (.scratchIndex n)

/-- `frame(b)` (40_framer_dispatch.md R102). -/
def frame (b : Byte) (s : State) : Result :=
  match s.framer.state with
  | .awaitingOpcode => frameOpcode b s
  | .bufferingArgs => frameArgument b s

/-! ### Placing one command -/

/-- The framer after the first `n` of a command's bytes (its opcode and `n - 1` arguments) have been framed, the last
byte still to come; for a command of one byte, the framer as it stands. -/
def primedFramer (s : State) (bytes : List Byte) : Framer :=
  let op := argByte bytes 0
  let n := arglen op
  if n = 0 then { s.framer with state := .awaitingOpcode }
  else
    { state := .bufferingArgs, exp := n, cnt := n - 1, handler := some (dispatchHandler s.dt op),
      buf := bytes.take n ++ s.framer.buf.drop n }

/-- Place one command where the consumer's next step completes it: every byte but the last framed, the last one popped and
about to be framed, and the next turn the consumer's (log 7). -/
def placeCommand (s : State) (bytes : List Byte) : State :=
  { s with
    framer := primedFramer s bytes
    agents := { s.agents with
                consumer := .framing (argByte bytes (arglen (argByte bytes 0))), sched := .consumer :: s.agents.sched } }

end Sys2Proof.Machine
end

