-- ==== Sys2Proof/Machine/Tick.lean ====
section
/-! DEFINITION. The consumer's tick (60_exceptions.md R265 to R269), the vsync gate (R276, R277), and the turns of the
agents (00_scope.md R8, R9; log 5). -/

namespace Sys2Proof.Machine

/-- The blink threshold in force (60_exceptions.md R268). -/
def blinkThreshold (s : State) : Nat := if s.edit then blinkEdit else blinkNormal

/-- `Blink()` (60_exceptions.md R268). -/
def blink (s : State) : State :=
  if blinkThreshold s ≤ s.blinkCnt + 1 then
    let s1 := { s with blinkCnt := 0 }
    if s.cursorEnabled then toggleFlash s1 else s1
  else { s with blinkCnt := s.blinkCnt + 1 }

/-- `Flash()` (60_exceptions.md R269). -/
def flash (s : State) : State :=
  if s.params.flashPeriod ≤ s.flashCnt + 1 then { s with flashCnt := 0 }.request .smFlashSwap
  else { s with flashCnt := s.flashCnt + 1 }

/-- The tick ends; one that arrived meanwhile starts (60_exceptions.md R267, R270). -/
def endTick (s : State) : State :=
  { s with agents :=
    { s.agents with consumer := if s.agents.tickPending then .draining else .idle, tickPending := false } }

/-- The drain loop's test (20_memory.md R64): pop the oldest byte, or, on an empty queue, go on to the counters. -/
def drainStep (s : State) : Result :=
  if s.queue.count = 0 then .next (s.setConsumer .counting)
  else
    match pop s with
    | .byte b s1 => .next (s1.setConsumer (.framing b))
    | .fault r => .fault r

/-- One step of the consumer (60_exceptions.md R265): nothing without a tick in progress; the test with its pop; the framing
of the popped byte, with the whole command when it completes one; the counter update that ends the tick. An `enqueue` may
fall between any two of them (20_memory.md R71; log 6). -/
def consumerStep (s : State) : Result :=
  match s.agents.consumer with
  | .idle => .next s
  | .draining => drainStep s
  | .framing b => frame b (s.setConsumer .draining)
  | .counting => .next (endTick (flash (blink s)))

/-- `TICK` arrives: it starts a tick, or stays pending while one runs (60_exceptions.md R267). -/
def tickArrives (s : State) : State :=
  if s.agents.consumer = .idle then s.setConsumer .draining
  else { s with agents := { s.agents with tickPending := true } }

/-- A caller performs `WAIT_VSYNC` (60_exceptions.md R277): acknowledged if the flag is set, held if not (log 20). -/
def waitVsync (s : State) : State :=
  if s.vsync then takeVsync s
  else { s with agents := { s.agents with waiters := s.agents.waiters + 1 } }

/-- A held caller is looked at again (60_exceptions.md R277): it stays held while the flag is 0. -/
def waiterTurn (s : State) : State :=
  if s.vsync ∧ 0 < s.agents.waiters then
    takeVsync { s with agents := { s.agents with waiters := s.agents.waiters - 1 } }
  else s

/-- A turn that startup must have come before: a byte or a tick (70_reset_and_hazards.md R293; log 22, which says what the
other turns do). -/
def afterStartup (s : State) (r : Result) : Result :=
  if s.scr.mode = .noMode then .refused .beforeStartup else r

end Sys2Proof.Machine
end

