-- ==== Sys2Proof/Machine/QueryPort.lean ====
section
/-! DEFINITION. The query port (60_exceptions.md R273, R274; 10_state.md R45): a pure read of the block's state. Only the
character under a cursor asks a collaborator, with a read request that changes no field of the block. -/

namespace Sys2Proof.Machine

/-- The cell a character query reads, if the query is one. -/
def queryCell (q : Query) (s : State) : Option TextPos :=
  match q with
  | .charAtText => some s.txt
  | .charAtEdit => some s.ed
  | _ => none

/-- The value of every query that the block answers itself (60_exceptions.md R273); a character query is answered by
`SM.ReadChar` and gets `c`. -/
def queryValue (q : Query) (c : Byte) (s : State) : Reply :=
  match q with
  | .textCursor => .cell s.txt
  | .editCursor => .cell s.ed
  | .charAtText => .char c
  | .charAtEdit => .char c
  | .screenMode => .mode s.scr.mode
  | .gfxColours => .pair s.col.gfg s.col.gbg
  | .textWindowCells => .cells s.tw
  | .textWindowPixels => .pixels (textArea s)
  | .gfxWindowExternal => .window s.gw
  | .gfxWindowInternal => .pixels (gclip s)
  | .origin => .point s.org
  | .gfxHistory => .points s.g0 s.g1 s.g2
  | .plotModes => .pair s.col.gfgAct s.col.gbgAct
  | .colourTint => .colours s.col.tfg s.col.tbg s.col.gfg s.col.gbg
  | .glyphSize => .size s.scr.fw s.scr.fh
  | .windowSize => .size (s.tw.r - s.tw.l + 1) (s.tw.b - s.tw.t + 1)
  | .binding => .flag s.vdu5
  | .screen => .geometry s.scr.w s.scr.h s.scr.bpp s.scr.eigx s.scr.eigy s.scr.ncol

/-- A `QUERY` transaction (00_scope.md R9): the request it may need and the reply go to the trace, and nothing else changes
(20_memory.md R68). -/
def answerQuery (q : Query) (s : State) : State :=
  match queryCell q s with
  | none => s.emit (.reply q (queryValue q 0 s))
  | some p =>
    (s.request (.smReadChar p.x p.y)).emit (.reply q (queryValue q (s.readChar p) s))

/-- One turn of the schedule (log 5). Before startup has completed (70_reset_and_hazards.md R293, which names the producer
and the tick only) `byteIn` and `tick` are refused; DESIGN CHOICE, unsafe (log 22): `vsync`, `waitVsync`, `waiter`, `query`
and `consumer` are served there as in any other state. -/
def takeTurn (t : Turn) (s : State) : Result :=
  match t with
  | .byteIn b => afterStartup s (enqueue b s)
  | .tick => afterStartup s (.next (tickArrives s))
  | .vsync => .next (setVsync s)
  | .waitVsync => .next (waitVsync s)
  | .waiter => .next (waiterTurn s)
  | .query q => .next (answerQuery q s)
  | .consumer => consumerStep s

/-- Who moves when the schedule names nobody (log 5): a held caller that can go on, else the consumer inside its tick,
else the next periodic `TICK` arrives. -/
def defaultTurn (s : State) : Turn :=
  if s.vsync ∧ 0 < s.agents.waiters then .waiter
  else if s.agents.consumer = .idle then .tick
  else .consumer

/-- The turn a step takes and the state it takes it in: the schedule's front, taken off, or the default (log 5). -/
def nextTurn (s : State) : Turn × State :=
  match s.agents.sched with
  | t :: rest => (t, { s with agents := { s.agents with sched := rest } })
  | [] => (defaultTurn s, s)

end Sys2Proof.Machine
end

