-- ==== Sys2Proof/Machine/Step.lean ====
section
/-! DEFINITION. One step of the machine: the agent that the schedule names takes its turn, or, when it names nobody, the
one `defaultTurn` names. -/

namespace Sys2Proof.Machine

/-- One step (00_scope.md R8; 60_exceptions.md R264, R265). A complete command is one step of the consumer. -/
def step (s : State) : Host.Outcome State Fault Refusal :=
  takeTurn (nextTurn s).1 (nextTurn s).2

/-- `s` with one command placed where the next step completes and runs it (log 7). -/
def State.withFetchWord (s : State) (nbits w : Nat) : State := placeCommand s (wordBytes nbits w)

end Sys2Proof.Machine
end

