-- ==== Sys2Proof/Safety.lean ====
section
/-! DEFINITION. What a good state and a good platform are, in the terms the claims use: the spec's invariants
(10_state.md R22, R24, R25, R27, R28, R29, R31, R32, R38, R41; 41_cursor.md R164), the queue read as a list of bytes, and
what "only this changed" means. Everything here is decidable. -/

namespace Sys2Proof.Machine

/-! ### The queue as a list -/

/-- The unread bytes, oldest first: the slots from the read cursor on (20_memory.md R62 to R64). -/
def unread (s : State) : List Byte :=
  (List.range s.queue.count).map fun i => s.slot ((s.queue.r + i) % s.params.qcap)

/-- The last `n` entries of a list. -/
def lastN {α : Type} (n : Nat) (xs : List α) : List α := xs.drop (xs.length - n)

/-! ### Invariants -/

/-- `QCAP` is a power of two, at least 16 (00_scope.md R6). -/
abbrev capOk (p : Params) : Prop := 16 ≤ p.qcap ∧ 2 ^ p.qcap.log2 = p.qcap

/-- The queue (10_state.md R22): its buffer in canonical form inside 0..QCAP-1, its cursors and count in range and in
agreement. -/
abbrev queueOk (s : State) : Prop :=
  Memory.wf (slotFill s.params) s.queue.buf ∧ (∀ e ∈ s.queue.buf, e.1 < s.params.qcap) ∧ s.queue.r < s.params.qcap ∧
  s.queue.count ≤ s.params.qcap ∧ s.queue.w = (s.queue.r + s.queue.count) % s.params.qcap

/-- The nine mutable entries agree with `vdu5` (10_state.md R25). -/
abbrev bindingOk (s : State) : Prop := s.dt = if s.vdu5 then graphicsBindings else textBindings

/-- The framer (10_state.md R23, 40_framer_dispatch.md R101, R103): ten scratch bytes; while buffering, the expected
count and the captured handler are those of the opcode in `fbuf[0]`, and an argument is still missing. -/
abbrev framerOk (s : State) : Prop :=
  s.framer.buf.length = fbufLen ∧
  (s.framer.state = .bufferingArgs →
    s.framer.exp = arglen (argByte s.framer.buf 0) ∧ s.framer.cnt < s.framer.exp ∧
    s.framer.handler = some (dispatchHandler s.dt (argByte s.framer.buf 0)))

/-- The text window, the text cursor and, while editing, the edit cursor (10_state.md R27, R28, R31, R32). -/
abbrev textOk (s : State) : Prop :=
  gridOk s.scr = true ∧ twValid s.scr s.tw = true ∧ inside s.tw s.txt = true ∧
  (s.edit = true → inside s.tw s.ed = true)

/-- The graphics window (10_state.md R29), for a screen at least two external units wide and high: a smaller screen has
no window that R29 allows. -/
abbrev gfxOk (s : State) : Prop :=
  2 ≤ (extWidth s.scr).toInt → 2 ≤ (extHeight s.scr).toInt → gwValid s.scr s.gw = true

/-- The painted cursors between commands (41_cursor.md R164): the block cursor is shown exactly while editing, and the
flashing cursor is shown only while it is enabled (44_mode_ext.md R245). -/
abbrev paintOk (s : State) : Prop := s.bcVisible = s.edit ∧ (s.fcVisible = true → s.cursorEnabled = true)

/-- The tick counters (10_state.md R41). -/
abbrev countersOk (s : State) : Prop := s.blinkCnt ≤ blinkNormal ∧ s.flashCnt ≤ s.params.flashPeriod

/-- The agents (60_exceptions.md R267): a tick is pending only while one runs. -/
abbrev agentsOk (s : State) : Prop := s.agents.tickPending = true → s.agents.consumer ≠ .idle

/-- FW and FH are the metrics of the font in force, and the Font collaborator holds its eight parameters (10_state.md R26,
44_mode_ext.md R243). -/
abbrev fontOk (s : State) : Prop :=
  s.scr.fw = s.collab.font.fw.toNat ∧ s.scr.fh = s.collab.font.fh.toNat ∧ s.collab.fontParams.length = fontParamCount

/-- The invariant of the machine between steps. -/
abbrev State.Inv (s : State) : Prop :=
  capOk s.params ∧ queueOk s ∧ bindingOk s ∧ framerOk s ∧ textOk s ∧ gfxOk s ∧ paintOk s ∧ countersOk s ∧ agentsOk s ∧
  fontOk s ∧ s.reinit = false ∧ s.scr.mode ≠ .noMode

/-- A platform that startup succeeds on (70_reset_and_hazards.md R293): a legal capacity, and a supported default mode
whose geometry and the default font keep their contracts and give a text grid. -/
abbrev platformOk (p : Params) : Prop :=
  capOk p ∧ metricsOk p.font = true ∧ gridOk (State.resetOn p).scr = true ∧
  ((modeRow p p.defaultMode).map fun row => geometryOk row.geometry) = some true

/-! ### Safe outcomes -/

/-- A step that does not end in a fault. -/
def notFault : Result → Bool
  | .fault _ => false
  | _ => true

/-- A step that answers a next state. -/
def completes : Result → Bool
  | .next _ => true
  | _ => false

/-! ### Frames: what may have changed -/

/-- Nothing changed but the text cursor and the trace. -/
abbrev onlyText (s t : State) : Prop := t = { s with txt := t.txt, trace := t.trace }

/-- Nothing changed but the current graphics cursor and the trace. -/
abbrev onlyG0 (s t : State) : Prop := t = { s with g0 := t.g0, trace := t.trace }

/-- Nothing changed but the trace. -/
abbrev onlyTrace (s t : State) : Prop := t = { s with trace := t.trace }

/-! ### The state a mode switch ends in -/

/-- The whole state after a mode switch to a mode of this geometry and these default colours, with all its requests
(44_mode_ext.md R234, R236; 42_window_graphics.md R190; 43_colour.md R216; 41_cursor.md R140), written out field by field:
what it leaves alone is the parameters, the queue, the framer, the flash counter, the vsync flag, the agents and the answers
the collaborators are still to give. The glyph size is the default font's (log 23). -/
def switched (s : State) (m : ModeId) (params : Option (List Byte)) (g : Geometry) (d : DefColours) : State :=
  let c : Screen := { mode := m, w := g.w.toNat, h := g.h.toNat, bpp := g.bpp.toNat, eigx := g.eigx.toNat,
                      eigy := g.eigy.toNat, ncol := g.ncol.toNat, fw := s.params.font.fw.toNat,
                      fh := s.params.font.fh.toNat }
  let w : TextWindow := ⟨0, c.h / c.fh - 1, c.w / c.fw - 1, 0⟩
  { s with
    dt := textBindings, vdu5 := false, scr := c, tw := w
    gw := ⟨0, 0, (BitVec.ofNat 32 c.w <<< c.eigx) - 1, (BitVec.ofNat 32 c.h <<< c.eigy) - 1⟩
    org := ⟨0, 0⟩, txt := ⟨0, 0⟩, ed := ⟨0, 0⟩, edit := false, g0 := ⟨0, 0⟩, g1 := ⟨0, 0⟩, g2 := ⟨0, 0⟩
    col := { tfg := d.tfg &&& 0x3F, tbg := d.tbg &&& 0x3F, gfg := d.gfg &&& 0x3F, gbg := d.gbg &&& 0x3F,
             gfgAct := 0, gbgAct := 0 }
    cursorEnabled := true, fcVisible := false, bcVisible := false, sprSel := 0, blinkCnt := 0, reinit := true
    collab := { s.collab with font := s.params.font, fontParams := List.replicate 8 none }
    trace := s.trace ++
      (if m ≠ .custom ∧ s.scr.mode = m then [] else [.request (.smInit m params)]) ++
      [.request .smResetPixels, .request .smGeometry, .request .fontMetrics, .request .smResetColours,
       .request (.smClearArea (cellRect c w) (d.tbg &&& 0x3F) 0), .request .dpClearSprites] }

/-! ### Where a command stands in the framer -/

/-- The bytes of the command being framed (40_framer_dispatch.md R102): none while awaiting an opcode, else the opcode and
the arguments received. -/
def framed (s : State) : List Byte :=
  match s.framer.state with
  | .awaitingOpcode => []
  | .bufferingArgs => s.framer.buf.take (s.framer.cnt + 1)

/-- The framer just after the last byte of a command, whose bytes are `bytes` (40_framer_dispatch.md R102). -/
def framerAfter (s : State) (bytes : List Byte) : Framer where
  state := .awaitingOpcode
  exp := arglen (argByte bytes 0)
  cnt := arglen (argByte bytes 0)
  handler := some (handlerFor s.vdu5 (argByte bytes 0))
  buf := bytes ++ s.framer.buf.drop bytes.length

/-- The queue with `n` bytes taken from its front (20_memory.md R63). -/
def popped (s : State) (n : Nat) : Queue :=
  { s.queue with r := (s.queue.r + n) % s.params.qcap, count := s.queue.count - n }

/-- The consumer moves next and keeps moving: no turn is scheduled, no held caller can go on, a tick is at the test of its
drain loop. -/
abbrev draining (s : State) : Prop :=
  s.agents.sched = [] ∧ ¬(s.vsync = true ∧ 0 < s.agents.waiters) ∧ s.agents.consumer = .draining

/-- Nothing happens but ticks: no turn is scheduled, no held caller can go on, no tick is in progress or pending, and the
queue is empty. -/
abbrev idle (s : State) : Prop :=
  s.agents.sched = [] ∧ ¬(s.vsync = true ∧ 0 < s.agents.waiters) ∧ s.agents.consumer = .idle ∧
  s.agents.tickPending = false ∧ s.queue.count = 0 ∧ s.scr.mode ≠ .noMode

end Sys2Proof.Machine
end

