-- ==== Sys2Proof/Certificates/Slice0/Obligations.lean ====
section
/-! DEFINITION. The statements for the provers. Each docstring names the rules of spec/ the statement formalises. The
invariants, the queue read as a list, and the frames stand in Safety.lean. -/

open Sys2Proof Sys2Proof.Machine

/-! ### Encoding and decoding (30_encoding.md) -/

/-- Decoding the bytes of a well-formed command gives it back, with every operand at every value (R80, R81, R84, R89,
R92), whatever bytes follow. The byte order and some field orders are the spec's own decisions D6 and D27. -/
def Obligations.DecodeOfEncodeIsTheCommand : Prop :=
  ∀ (v : Bool) (i : Instr) (rest : List Byte), i.wfUnder v = true → decode v (encode i ++ rest) = .ok i rest

/-- The bytes of a decoded command are its encoding: no bit of a command is dropped, and each byte string has one
reading under a binding (R80, R91, R92; the spec's own decisions D6, D27). -/
def Obligations.EncodeOfDecodeIsTheBytes : Prop :=
  ∀ (v : Bool) (bs : List Byte) (i : Instr) (rest : List Byte),
    decode v bs = .ok i rest → bs = encode i ++ rest ∧ i.wfUnder v = true

/-- R91: the length of a command is one byte and its argument count, which depends on the opcode only, not on argument
values or the binding; bytes are rejected only for being too few (R90). -/
def Obligations.DecoderRejectsOnlyShortInput : Prop :=
  ∀ (v : Bool) (bs : List Byte),
    ((∃ i rest, decode v bs = .ok i rest) ↔ ∃ op tail, bs = op :: tail ∧ arglen op ≤ tail.length) ∧
    (∀ i rest, decode v bs = .ok i rest → rest = bs.drop (1 + arglen (argByte bs 0)))

/-- A few commands written out byte by byte from R81 and R89 decode to what they stand for (the spec's own decisions D6,
D27). -/
def Obligations.WrittenCommandsDecode : Prop :=
  decode false [31, 5, 3] = .ok (.tab 5 3) [] ∧ decode true [31, 5, 3] = .ok (.gtab 5 3) [] ∧
  decode false [28, 0, 24, 39, 1] = .ok (.twindow 0 24 39 1) [] ∧
  decode false [25, 4, 0, 5, 0xF0, 0xFF] = .ok (.plot 4 0x0500 0xFFF0) [] ∧
  decode true [127] = .ok .gdel [] ∧ decode false [126] = .ok (.print 126) [] ∧
  decode false [23, 65, 1, 2, 3, 4, 5, 6, 7, 8] = .ok (.vdu23 65 1 2 3 4 5 6 7 8) []

/-! ### The framer (40_framer_dispatch.md R102, R104) -/

/-- A step runs the decoded command: when the byte the consumer frames next completes a command, the step is `exec` of that
command between `CursorHide` and `CursorRestore`, in the state with the framer back in `AwaitingOpcode` and the consumer
back at the test of its drain loop (R102, R104; 60_exceptions.md R265; the spec's own decisions D22, D49; log 6, log 15,
log 16). That it does so before startup too is the model's choice (log 22). -/
def Obligations.LastByteRunsTheDecodedCommand : Prop :=
  ∀ (s : State) (b : Byte) (i : Instr),
    (nextTurn s).1 = .consumer → (nextTurn s).2.agents.consumer = .framing b →
    bindingOk (nextTurn s).2 → framerOk (nextTurn s).2 →
    decode (nextTurn s).2.vdu5 (framed (nextTurn s).2 ++ [b]) = .ok i [] →
    step s =
      andThen
        (exec i (cursorHide { (nextTurn s).2 with
          framer := framerAfter (nextTurn s).2 (framed (nextTurn s).2 ++ [b])
          reinit := false
          agents := { (nextTurn s).2.agents with consumer := .draining } }))
        fun t => .next (cursorRestore (nextTurn s).2.fcVisible t)

/-- A byte that leaves the command incomplete is kept in the scratch buffer and changes nothing else but the consumer's
place (R102; hazard of 70_reset_and_hazards.md R296; the consumer's steps are the model's reading, log 6; that the consumer
moves before startup too is its choice, log 22). -/
def Obligations.IncompleteCommandOnlyBuffers : Prop :=
  ∀ (s : State) (b op : Byte) (need got : Nat),
    (nextTurn s).1 = .consumer → (nextTurn s).2.agents.consumer = .framing b →
    bindingOk (nextTurn s).2 → framerOk (nextTurn s).2 →
    decode (nextTurn s).2.vdu5 (framed (nextTurn s).2 ++ [b]) = .truncated op need got →
    step s = .next { (nextTurn s).2 with
      agents := { (nextTurn s).2.agents with consumer := .draining }
      framer :=
        { state := .bufferingArgs, exp := need, cnt := got, handler := some (handlerFor (nextTurn s).2.vdu5 op),
          buf := framed (nextTurn s).2 ++ [b] ++ (nextTurn s).2.framer.buf.drop (got + 1) } }

/-- A whole command at the front of the queue runs after two consumer steps for each of its bytes, the pop and the framing,
and not before (R102, 20_memory.md R64, R70): the run is one `runCommand` in the state with those bytes popped. That the
consumer keeps moving is the model's default order of turns (log 5, log 6). -/
def Obligations.QueuedCommandRunsAfterItsBytes : Prop :=
  ∀ (s : State) (i : Instr) (tail : List Byte),
    s.Inv → draining s → s.framer.state = .awaitingOpcode → i.wfUnder s.vdu5 = true → unread s = encode i ++ tail →
    Host.Core.run Sys2Proof.core (2 * (encode i).length) s =
      runCommand i { s with queue := popped s (encode i).length, framer := framerAfter s (encode i) }

/-- The model's own placing of a table word (log 7): the next step runs the command the decoder reads from the word, in a
state that differs from the given one only in the framer and the consumer's place. That it does so before startup too is
log 22. -/
def Obligations.PlacedWordRunsNext : Prop :=
  ∀ (s : State) (nbits w : Nat) (i : Instr),
    bindingOk s → s.vdu5 = false → s.framer.buf.length = fbufLen → decodeTableWord nbits w = some i →
    ∃ s', step (s.withFetchWord nbits w) = runCommand i s' ∧
      s' = { s with framer := s'.framer, agents := { s.agents with consumer := .draining } } ∧
      s'.framer.state = .awaitingOpcode

/-! ### The queue (20_memory.md R62 to R64) -/

/-- R62, with the invariant of 10_state.md R22: an enqueue writes the slot at the write cursor and no other, advances the
cursor, and on a full queue loses the oldest byte and records the overflow. A step whose turn is `BYTE_IN` (00_scope.md R9)
is that enqueue, and is refused before startup (70_reset_and_hazards.md R293; log 22). The count is the spec's own decision
D3; that the turn comes from a schedule is the model's (log 5). -/
def Obligations.EnqueueAppendsAndDropsTheOldest : Prop :=
  ∀ (b : Byte) (s : State),
    (queueOk s →
      ∃ t, enqueue b s = .next t ∧ t = { s with queue := t.queue, trace := t.trace } ∧
        t.slot s.queue.w = b ∧
        (∀ a, a ≠ s.queue.w → t.slot a = s.slot a) ∧
        t.queue.w = (s.queue.w + 1) % s.params.qcap ∧
        (s.queue.count = s.params.qcap →
          t.queue.r = (s.queue.r + 1) % s.params.qcap ∧ t.queue.count = s.queue.count ∧
          t.trace = s.trace ++ [.outcome (.queueOverflow b)] ∧ unread t = (unread s).tail ++ [b]) ∧
        (s.queue.count ≠ s.params.qcap →
          t.queue.r = s.queue.r ∧ t.queue.count = s.queue.count + 1 ∧ t.trace = s.trace ∧
          unread t = unread s ++ [b]) ∧
        queueOk t) ∧
    (∀ rest, s.agents.sched = .byteIn b :: rest →
      (s.scr.mode ≠ .noMode → step s = enqueue b { s with agents := { s.agents with sched := rest } }) ∧
      (s.scr.mode = .noMode → step s = .refused .beforeStartup))

/-- R63: a pop takes the oldest unread byte, advances the read cursor and changes nothing else; the consumer performs it at
the test of its drain loop, and the popped byte goes to the framer (its steps are the model's reading, log 6). -/
def Obligations.PopTakesTheOldestByte : Prop :=
  ∀ (s : State), queueOk s → 0 < s.queue.count →
    ∃ t, pop s = .byte (s.slot s.queue.r) t ∧ unread s = s.slot s.queue.r :: unread t ∧
      t = { s with queue := { s.queue with r := (s.queue.r + 1) % s.params.qcap, count := s.queue.count - 1 } } ∧
      queueOk t ∧
      (s.agents.consumer = .draining →
        consumerStep s = .next { t with agents := { s.agents with consumer := .framing (s.slot s.queue.r) } } ∧
        consumerStep { t with agents := { s.agents with consumer := .framing (s.slot s.queue.r) } } =
          frame (s.slot s.queue.r) t)

/-- Scenario D of the source (R62, R64; 90_conflicts.md C2; the spec's own decision D3): after any number of enqueues the
unread bytes are the most recent QCAP ones. -/
def Obligations.NewestBytesSurviveOverflow : Prop :=
  ∀ (bs : List Byte) (s : State), queueOk s →
    ∃ t, enqueueAll bs s = .next t ∧ t = { s with queue := t.queue, trace := t.trace } ∧ queueOk t ∧
      unread t = lastN s.params.qcap (unread s ++ bs)

/-! ### Reset (70_reset_and_hazards.md R291, R292; 10_state.md R45) -/

/-- The startup sequence (R291, the spec's own decision D50), from any state of a platform it succeeds on, ends in the reset
state of that platform; what it does not write is the contents of both buffers, the captured handler, the agents and the
answers collaborators are still to give. The reset value of `reinit` is the model's (log 15), and so is the default font
at a mode switch (log 23). -/
def Obligations.StartupReachesTheResetState : Prop :=
  ∀ (s : State), platformOk s.params →
    startup s = .next
      { State.resetOn s.params with
        queue := { s.queue with w := 0, r := 0, count := 0 }
        framer := { s.framer with state := .awaitingOpcode, exp := 0, cnt := 0 }
        reinit := true
        agents := s.agents
        collab := { s.collab with font := s.params.font, fontParams := List.replicate 8 none }
        trace := s.trace ++ (State.resetOn s.params).trace }

/-- The reset state of every platform that startup succeeds on satisfies the invariant (R292; the reset values the model
chose are those of log 2, log 3, log 5, log 15 and log 20). -/
def Obligations.ResetStateSatisfiesTheInvariant : Prop :=
  ∀ (p : Params), platformOk p → (State.resetOn p).Inv

/-! ### The invariant of the machine -/

/-- Every step keeps the invariant: the queue's form and agreement (10_state.md R22), the binding (R25), the framer
(40_framer_dispatch.md R101, R103), the windows and cursors (R28, R29, R31, R32), the painted cursors (41_cursor.md
R164), the counters (R41), the glyph size (R26). The spec derives R164 and R31 itself; what one step is, is the model's (log 5, log 6). -/
def Obligations.EveryStepKeepsTheInvariant : Prop :=
  ∀ (s t : State), s.Inv → step s = .next t → t.Inv

/-- No step faults in a state that satisfies the invariant: the block has no process-fatal path (30_encoding.md R90,
60_exceptions.md R260). The faults are the model's own (log 21). -/
def Obligations.NoStepFaultsUnderTheInvariant : Prop :=
  ∀ (s : State), s.Inv → notFault (step s) = true

/-! ### Text cursor, VDU 4 binding (41_cursor.md R131 to R144) -/

/-- R134, R132, R136, R139: VDU 8 steps left or wraps to the right column of the row above, VDU 11 moves one row up; at
the top row both scroll the window down and stay. The scroll at the top row is the spec's own decision D9. -/
def Obligations.LeftAndUpMoveOrScrollDown : Prop :=
  ∀ (s : State),
    let scrolled : List Event := s.trace ++ [.request (.smScroll (cellRect s.scr s.tw) .down s.col.tbg)]
    (s.tw.l < s.txt.x → exec .left s = .next { s with txt := ⟨s.txt.x - 1, s.txt.y⟩ }) ∧
    (s.txt.x ≤ s.tw.l → s.tw.t < s.txt.y → exec .left s = .next { s with txt := ⟨s.tw.r, s.txt.y - 1⟩ }) ∧
    (s.txt.x ≤ s.tw.l → s.txt.y ≤ s.tw.t →
      exec .left s = .next { s with txt := ⟨s.tw.r, s.txt.y⟩, trace := scrolled }) ∧
    (s.tw.t < s.txt.y → exec .up s = .next { s with txt := ⟨s.txt.x, s.txt.y - 1⟩ }) ∧
    (s.txt.y ≤ s.tw.t → exec .up s = .next { s with trace := scrolled })

/-- R133, R137, R138: VDU 9 steps right or wraps to the left column of the row below, VDU 10 moves one row down; at the
bottom row both scroll the window up and stay. -/
def Obligations.RightAndDownMoveOrScrollUp : Prop :=
  ∀ (s : State),
    let scrolled : List Event := s.trace ++ [.request (.smScroll (cellRect s.scr s.tw) .up s.col.tbg)]
    (s.txt.x < s.tw.r → exec .right s = .next { s with txt := ⟨s.txt.x + 1, s.txt.y⟩ }) ∧
    (s.tw.r ≤ s.txt.x → s.txt.y < s.tw.b → exec .right s = .next { s with txt := ⟨s.tw.l, s.txt.y + 1⟩ }) ∧
    (s.tw.r ≤ s.txt.x → s.tw.b ≤ s.txt.y →
      exec .right s = .next { s with txt := ⟨s.tw.l, s.txt.y⟩, trace := scrolled }) ∧
    (s.txt.y < s.tw.b → exec .down s = .next { s with txt := ⟨s.txt.x, s.txt.y + 1⟩ }) ∧
    (s.tw.b ≤ s.txt.y → exec .down s = .next { s with trace := scrolled })

/-- R143: VDU 31 is relative to the window's top-left and ignored, with the outcome recorded, outside the window. -/
def Obligations.TabMovesInsideTheWindowOnly : Prop :=
  ∀ (s : State) (x y : Byte),
    (s.tw.l + x.toNat ≤ s.tw.r → s.tw.t + y.toNat ≤ s.tw.b →
      exec (.tab x y) s = .next { s with txt := ⟨s.tw.l + x.toNat, s.tw.t + y.toNat⟩ }) ∧
    (s.tw.r < s.tw.l + x.toNat ∨ s.tw.b < s.tw.t + y.toNat →
      exec (.tab x y) s = .next { s with trace := s.trace ++ [.outcome (.rejected .tab)] })

/-- R141, R142: VDU 13 moves the text cursor to the window's left column, VDU 30 to its top-left. -/
def Obligations.ReturnAndHomeMoveTheTextCursor : Prop :=
  ∀ (s : State),
    exec .cr s = .next { s with txt := ⟨s.tw.l, s.txt.y⟩ } ∧ exec .home s = .next { s with txt := ⟨s.tw.l, s.tw.t⟩ }

/-- R140, R144: VDU 12 clears the text window and homes, VDU 127 is VDU 8 and then a space written into the cell arrived
at. The home step and the meaning of VDU 127 are the spec's own decisions D15 and D17. -/
def Obligations.ClearAndDeleteWriteTheWindow : Prop :=
  ∀ (s : State),
    exec .cls s = .next
      { s with
        txt := ⟨s.tw.l, s.tw.t⟩
        trace := s.trace ++ [.request (.smClearArea (cellRect s.scr s.tw) s.col.tbg 0)] } ∧
    ∃ t, exec .left s = .next t ∧
      exec .del s = .next
        { t with trace := t.trace ++ [.request (.smWriteChar 32 t.txt.x t.txt.y s.col.tfg s.col.tbg)] }

/-- R135, which the spec derives, with 10_state.md R31: every text-cursor command completes, leaves the cursor inside the
window, and changes nothing but the cursor and what it requested. -/
def Obligations.TextCommandsStayInTheWindow : Prop :=
  ∀ (s : State) (i : Instr),
    (i ∈ [.left, .right, .down, .up, .cls, .cr, .home, .del] ∨ ∃ x y, i = .tab x y) →
    s.tw.l ≤ s.tw.r → s.tw.t ≤ s.tw.b → inside s.tw s.txt = true →
    ∃ t, exec i s = .next t ∧ onlyText s t ∧ inside t.tw t.txt = true

/-! ### Graphics cursor, VDU 5 binding (41_cursor.md R145 to R155) -/

/-- R145 to R149 (the spec's own decision D14): the four motions, in signed 32-bit arithmetic, writing the current point
only. -/
def Obligations.GraphicsMotionFollowsTheStep : Prop :=
  ∀ (s : State),
    let dx : Word := BitVec.ofNat 32 s.scr.fw <<< s.scr.eigx
    let dy : Word := BitVec.ofNat 32 s.scr.fh <<< s.scr.eigy
    let down : Word := if (s.g0.y - dy - dy + 1).toInt < s.gw.b.toInt then s.gw.t else s.g0.y - dy
    let up : Word := if s.gw.t.toInt < (s.g0.y + dy).toInt then s.gw.b + dy - 1 else s.g0.y + dy
    exec .gdown s = .next { s with g0 := ⟨s.g0.x, down⟩ } ∧
    exec .gup s = .next { s with g0 := ⟨s.g0.x, up⟩ } ∧
    (s.gw.r.toInt < (s.g0.x + dx + dx - 1).toInt → exec .gright s = .next { s with g0 := ⟨s.gw.l, down⟩ }) ∧
    ((s.g0.x + dx + dx - 1).toInt ≤ s.gw.r.toInt → exec .gright s = .next { s with g0 := ⟨s.g0.x + dx, s.g0.y⟩ }) ∧
    ((s.g0.x - dx).toInt < s.gw.l.toInt → exec .gleft s = .next { s with g0 := ⟨s.gw.r - dx + 1, up⟩ }) ∧
    (s.gw.l.toInt ≤ (s.g0.x - dx).toInt → exec .gleft s = .next { s with g0 := ⟨s.g0.x - dx, s.g0.y⟩ })

/-- R151, R152, R153, R155 and 42_window_graphics.md R184: clear and home, carriage return, home, delete (VDU 8, then the
cell arrived at is filled with the graphics background), and the clear of VDU 16, which moves no cursor. The spec's own
decisions D14, D15, D16, D17. -/
def Obligations.GraphicsClearHomeAndDelete : Prop :=
  ∀ (s : State),
    let dx : Word := BitVec.ofNat 32 s.scr.fw <<< s.scr.eigx
    let dy : Word := BitVec.ofNat 32 s.scr.fh <<< s.scr.eigy
    let clip : Rect := ⟨s.gw.l.sshiftRight s.scr.eigx, s.gw.b.sshiftRight s.scr.eigy,
      s.gw.r.sshiftRight s.scr.eigx, s.gw.t.sshiftRight s.scr.eigy⟩
    let cleared : List Event := s.trace ++ [.request (.smClearArea clip s.col.gbg s.col.gbgAct)]
    exec .clg s = .next { s with trace := cleared } ∧
    exec .gcls s = .next { s with g0 := ⟨s.gw.l, s.gw.t⟩, trace := cleared } ∧
    exec .gcr s = .next { s with g0 := ⟨s.gw.l, s.g0.y⟩ } ∧
    exec .ghome s = .next { s with g0 := ⟨s.gw.l, s.gw.t⟩ } ∧
    ∃ t, exec .gleft s = .next t ∧
      exec .gdel s = .next
        { s with
          g0 := t.g0
          trace := s.trace ++ [.request (.dpFillRect
            ⟨t.g0.x.sshiftRight s.scr.eigx, (t.g0.y - dy + 1).sshiftRight s.scr.eigy,
             (t.g0.x + dx - 1).sshiftRight s.scr.eigx, t.g0.y.sshiftRight s.scr.eigy⟩
            s.col.gbg s.col.gbgAct clip)] }

/-- R154 (the spec's own decision D18): VDU 31 in glyph cells from the graphics window's top-left, ignored when the cell
does not fit. -/
def Obligations.GraphicsTabMovesWhenTheCellFits : Prop :=
  ∀ (s : State) (x y : Byte),
    let dx : Word := BitVec.ofNat 32 s.scr.fw <<< s.scr.eigx
    let dy : Word := BitVec.ofNat 32 s.scr.fh <<< s.scr.eigy
    let nx : Word := s.gw.l + BitVec.ofNat 32 x.toNat * dx
    let ny : Word := s.gw.t - BitVec.ofNat 32 y.toNat * dy
    ((nx + dx - 1).toInt ≤ s.gw.r.toInt → s.gw.b.toInt ≤ (ny - dy + 1).toInt →
      exec (.gtab x y) s = .next { s with g0 := ⟨nx, ny⟩ }) ∧
    (s.gw.r.toInt < (nx + dx - 1).toInt ∨ (ny - dy + 1).toInt < s.gw.b.toInt →
      exec (.gtab x y) s = .next { s with trace := s.trace ++ [.outcome (.rejected .tab)] })

/-- R145 (the spec's own decision D14), the counterpart of R135: where one whole glyph cell fits in the window and the
cursor's cell is inside it, every motion leaves the cell inside it, issues no request (graphics mode never scrolls) and
writes nothing but the current point. The window is below 2^30, so that no sum wraps. -/
def Obligations.GraphicsMotionKeepsTheCellInside : Prop :=
  ∀ (s : State) (i : Instr), i ∈ [.gleft, .gright, .gdown, .gup] →
    0 ≤ s.gw.l.toInt → 0 ≤ s.gw.b.toInt → s.gw.r.toInt < 2 ^ 30 → s.gw.t.toInt < 2 ^ 30 →
    0 < (stepX s).toInt → (stepX s).toInt ≤ s.gw.r.toInt - s.gw.l.toInt + 1 →
    0 < (stepY s).toInt → (stepY s).toInt ≤ s.gw.t.toInt - s.gw.b.toInt + 1 →
    s.gw.l.toInt ≤ s.g0.x.toInt → s.g0.x.toInt + (stepX s).toInt - 1 ≤ s.gw.r.toInt →
    s.gw.b.toInt ≤ s.g0.y.toInt - (stepY s).toInt + 1 → s.g0.y.toInt ≤ s.gw.t.toInt →
    ∃ t, exec i s = .next t ∧ t = { s with g0 := t.g0 } ∧
      s.gw.l.toInt ≤ t.g0.x.toInt ∧ t.g0.x.toInt + (stepX s).toInt - 1 ≤ s.gw.r.toInt ∧
      s.gw.b.toInt ≤ t.g0.y.toInt - (stepY s).toInt + 1 ∧ t.g0.y.toInt ≤ s.gw.t.toInt

/-! ### Printing and VDU 27 (41_cursor.md R150, R156 to R158) -/

/-- R150 (under VDU 5 the spec's own decision D14): a printable byte paints its glyph at the active cursor and then moves
as VDU 9 of the binding does. -/
def Obligations.PrintPaintsThenAdvances : Prop :=
  ∀ (s : State) (c : Byte),
    (s.vdu5 = false →
      exec (.print c) s =
        exec .right { s with trace := s.trace ++ [.request (.smWriteChar c s.txt.x s.txt.y s.col.tfg s.col.tbg)] } ∧
      ∃ t, exec (.print c) s = .next t ∧ onlyText s t) ∧
    (s.vdu5 = true →
      exec (.print c) s =
        exec .gright { s with trace := s.trace ++ [.request (.dpPaintGlyph c (s.g0.x.sshiftRight s.scr.eigx)
          (s.g0.y.sshiftRight s.scr.eigy) s.col.gfg s.col.gfgAct (gclip s))] } ∧
      ∃ t, exec (.print c) s = .next t ∧ onlyG0 s t)

/-- R156 (the spec's own decision D21): an escaped byte that is none of the four edit keys is painted as a glyph, whatever
its value; it is not executed as a control code. -/
def Obligations.EscapedByteIsPaintedUnlessEditKey : Prop :=
  ∀ (s : State) (e : Byte),
    e ≠ s.params.editKeys.left → e ≠ s.params.editKeys.right → e ≠ s.params.editKeys.down →
    e ≠ s.params.editKeys.up →
    exec (.esc e) s = exec (.print e) s ∧ ∃ t, exec (.esc e) s = .next t

/-- R156, R157, R158 (the spec's own decision D19) for four distinct keys: the first key copies the text cursor into the
edit cursor, and each key moves the edit cursor one cell, wrapping to the next or previous row and from edge to edge.
Nothing is requested. -/
def Obligations.EditKeysMoveTheEditCursor : Prop :=
  ∀ (s : State),
    let k := s.params.editKeys
    let p : TextPos := if s.edit then s.ed else s.txt
    let down : Nat := if p.y < s.tw.b then p.y + 1 else s.tw.t
    let up : Nat := if s.tw.t < p.y then p.y - 1 else s.tw.b
    [k.left, k.right, k.down, k.up].Nodup →
    exec (.esc k.right) s = .next
      { s with edit := true, ed := if p.x < s.tw.r then ⟨p.x + 1, p.y⟩ else ⟨s.tw.l, down⟩ } ∧
    exec (.esc k.left) s = .next
      { s with edit := true, ed := if s.tw.l < p.x then ⟨p.x - 1, p.y⟩ else ⟨s.tw.r, up⟩ } ∧
    exec (.esc k.down) s = .next { s with edit := true, ed := ⟨p.x, down⟩ } ∧
    exec (.esc k.up) s = .next { s with edit := true, ed := ⟨p.x, up⟩ }

/-! ### Windows, origin, PLOT (42_window_graphics.md R185 to R191) -/

/-- R187: VDU 24 adds the origin to its operands and stores the window exactly when it is valid; it moves no cursor (the
spec's own decision D12). -/
def Obligations.GraphicsWindowStoredIffValid : Prop :=
  ∀ (s : State) (l b r t : Half),
    let L := l.signExtend 32 + s.org.x
    let B := b.signExtend 32 + s.org.y
    let R := r.signExtend 32 + s.org.x
    let T := t.signExtend 32 + s.org.y
    let valid := L.toInt < R.toInt ∧ B.toInt < T.toInt ∧
      0 ≤ L.toInt ∧ R.toInt < (BitVec.ofNat 32 s.scr.w <<< s.scr.eigx).toInt ∧
      0 ≤ B.toInt ∧ T.toInt < (BitVec.ofNat 32 s.scr.h <<< s.scr.eigy).toInt
    (valid → exec (.gwindow l b r t) s = .next { s with gw := ⟨L, B, R, T⟩ }) ∧
    (¬ valid →
      exec (.gwindow l b r t) s = .next { s with trace := s.trace ++ [.outcome (.rejected .gwindow)] })

/-- R188, R192: VDU 28 stores the window exactly when it fits the text grid; a cursor it excludes moves to its top-left
(the spec's own decision D11); a rejected window changes nothing. -/
def Obligations.TextWindowStoredIffItFits : Prop :=
  ∀ (s : State) (l b r t : Byte),
    let fits := l.toNat ≤ r.toNat ∧ r.toNat < s.scr.w / s.scr.fw ∧ t.toNat ≤ b.toNat ∧ b.toNat < s.scr.h / s.scr.fh
    let keeps (p : TextPos) := l.toNat ≤ p.x ∧ p.x ≤ r.toNat ∧ t.toNat ≤ p.y ∧ p.y ≤ b.toNat
    (fits → ∃ u, exec (.twindow l b r t) s = .next u ∧
      u = { s with tw := ⟨l.toNat, b.toNat, r.toNat, t.toNat⟩, txt := u.txt, ed := u.ed } ∧
      (keeps s.txt → u.txt = s.txt) ∧ (¬ keeps s.txt → u.txt = ⟨l.toNat, t.toNat⟩) ∧
      (s.edit = false ∨ keeps s.ed → u.ed = s.ed) ∧
      (s.edit = true → ¬ keeps s.ed → u.ed = ⟨l.toNat, t.toNat⟩)) ∧
    (¬ fits →
      exec (.twindow l b r t) s = .next { s with trace := s.trace ++ [.outcome (.rejected .twindow)] })

/-- R189 with 30_encoding.md R84 (the spec's own decision D6): VDU 29 sets the origin to the signed values of its two
16-bit operands and changes nothing else. -/
def Obligations.OriginTakesSignedOperands : Prop :=
  ∀ (s : State) (x y : Half), ∃ t, exec (.origin x y) s = .next t ∧
    t = { s with org := t.org } ∧ t.org.x.toInt = x.toInt ∧ t.org.y.toInt = y.toInt

/-- R185, R186 with 30_encoding.md R86 (the spec's own decision D31): VDU 25 pushes the history; `k[1:0] = 0` draws
nothing, 1 draws in the foreground, 2 inverts, 3 draws in the background. -/
def Obligations.PlotPushesThenDraws : Prop :=
  ∀ (s : State) (k : Byte) (x y : Half),
    let p : Point := if k.getLsbD 2 then ⟨s.org.x + x.signExtend 32, s.org.y + y.signExtend 32⟩
      else ⟨s.g0.x + x.signExtend 32, s.g0.y + y.signExtend 32⟩
    let u : State := { s with g2 := s.g1, g1 := s.g0, g0 := p }
    let draws (colour action : Byte) : State := { u with trace := s.trace ++ [.request (.dpPlot
      (BitVec.ofNat 5 (k.toNat / 8)) (BitVec.ofNat 2 (k.toNat % 4)) colour action (toInternal s p)
      (toInternal s s.g0) (toInternal s s.g1) (gclip s) s.sprSel)] }
    (k.toNat % 4 = 0 → exec (.plot k x y) s = .next u) ∧
    (k.toNat % 4 = 1 → exec (.plot k x y) s = .next (draws s.col.gfg s.col.gfgAct)) ∧
    (k.toNat % 4 = 2 → exec (.plot k x y) s = .next (draws s.col.gfg 4)) ∧
    (k.toNat % 4 = 3 → exec (.plot k x y) s = .next (draws s.col.gbg s.col.gbgAct))

/-- R190 (the spec's own decision D13): VDU 26 restores both default windows and the origin and homes the text cursor and
the current point; on a legal grid the new text window is legal, and the edit cursor, which it does not write, stays
inside it. -/
def Obligations.DefaultWindowsAreFullScreen : Prop :=
  ∀ (s : State), ∃ t, exec .defwin s = .next t ∧
    t = { s with tw := t.tw, gw := t.gw, org := ⟨0, 0⟩, txt := ⟨0, 0⟩, g0 := ⟨0, 0⟩ } ∧
    t.tw = ⟨0, s.scr.h / s.scr.fh - 1, s.scr.w / s.scr.fw - 1, 0⟩ ∧
    t.gw = ⟨0, 0, (BitVec.ofNat 32 s.scr.w <<< s.scr.eigx) - 1, (BitVec.ofNat 32 s.scr.h <<< s.scr.eigy) - 1⟩ ∧
    (textOk s → textOk t)

/-- R191 (the spec's own decision D35): after a font change the re-clamped window fits the new grid, and both cursors lie
inside it; a state that fits already is not changed. -/
def Obligations.ReclampGivesLegalTextState : Prop :=
  ∀ (s : State), gridOk s.scr = true →
    twValid s.scr (reclampText s).tw = true ∧ inside (reclampText s).tw (reclampText s).txt = true ∧
    inside (reclampText s).tw (reclampText s).ed = true ∧
    (twValid s.scr s.tw = true → inside s.tw s.txt = true → inside s.tw s.ed = true → reclampText s = s)

/-! ### Colours (43_colour.md R211 to R216) -/

/-- R211, 30_encoding.md R85 (bit 6 is ignored, the spec's own decision D26): VDU 17 writes the index of one text colour
register and keeps its tint and every other register. -/
def Obligations.ColourWritesOneIndex : Prop :=
  ∀ (s : State) (c : Byte), ∃ t, exec (.colour c) s = .next t ∧
    (c.toNat < 128 → t = { s with col := { s.col with tfg := t.col.tfg } } ∧
      t.col.tfg.toNat % 64 = c.toNat % 64 ∧ t.col.tfg.toNat / 64 = s.col.tfg.toNat / 64) ∧
    (128 ≤ c.toNat → t = { s with col := { s.col with tbg := t.col.tbg } } ∧
      t.col.tbg.toNat % 64 = c.toNat % 64 ∧ t.col.tbg.toNat / 64 = s.col.tbg.toNat / 64)

/-- R212 (the spec's own decision D27): VDU 18 writes the index of one graphics colour register, keeping its tint, and
stores the plot action as it is. -/
def Obligations.GraphicsColourWritesIndexAndAction : Prop :=
  ∀ (s : State) (k c : Byte), ∃ t, exec (.gcol k c) s = .next t ∧
    (c.toNat < 128 → t = { s with col := { s.col with gfg := t.col.gfg, gfgAct := k } } ∧
      t.col.gfg.toNat % 64 = c.toNat % 64 ∧ t.col.gfg.toNat / 64 = s.col.gfg.toNat / 64) ∧
    (128 ≤ c.toNat → t = { s with col := { s.col with gbg := t.col.gbg, gbgAct := k } } ∧
      t.col.gbg.toNat % 64 = c.toNat % 64 ∧ t.col.gbg.toNat / 64 = s.col.gbg.toNat / 64)

/-- R213, R214 (the spec's own decision D28): VDU 19 requests the physical colour derived from p below 16, grey for p = 8,
and the given triple from 16 up. -/
def Obligations.PaletteDerivesThePhysicalColour : Prop :=
  ∀ (s : State) (l p r g b : Byte),
    let sets (r' g' b' : Byte) : Result := .next { s with trace := s.trace ++ [.request (.smSetColour l r' g' b')] }
    let i : Byte := if 8 ≤ p.toNat then 255 else 127
    (p.toNat = 8 → exec (.palette l p r g b) s = sets 63 63 63) ∧
    (p.toNat < 16 → p.toNat ≠ 8 → exec (.palette l p r g b) s =
      sets (if p.toNat % 2 = 1 then i else 0) (if p.toNat / 2 % 2 = 1 then i else 0)
        (if p.toNat / 4 % 2 = 1 then i else 0)) ∧
    (16 ≤ p.toNat → exec (.palette l p r g b) s = sets r g b)

/-- R215, R216 (the spec's own decision D29): VDU 20 resets the palette, the four colour registers with tint 0, and both
plot actions. -/
def Obligations.DefaultColoursAreRestored : Prop :=
  ∀ (s : State), ∃ t, exec .defcol s = .next t ∧
    t = { s with col := t.col, trace := s.trace ++ [.request .smResetColours] } ∧
    t.col.gfgAct = 0 ∧ t.col.gbgAct = 0 ∧
    t.col.tfg.toNat = (defaultColours s.params s.scr.mode).tfg.toNat % 64 ∧
    t.col.tbg.toNat = (defaultColours s.params s.scr.mode).tbg.toNat % 64 ∧
    t.col.gfg.toNat = (defaultColours s.params s.scr.mode).gfg.toNat % 64 ∧
    t.col.gbg.toNat = (defaultColours s.params s.scr.mode).gbg.toNat % 64

/-! ### Binding and no-operations (40_framer_dispatch.md R106 to R118) -/

/-- R106, R107: VDU 4 and VDU 5 write the nine mutable entries and `vdu5`, nothing else; each is idempotent. -/
def Obligations.BindingCommandsRebindNineEntries : Prop :=
  ∀ (s : State) (v : Bool),
    ∃ t, exec (if v then .vdu5 else .vdu4) s = .next t ∧ t = { s with dt := t.dt, vdu5 := v } ∧
      (∀ op : Byte, isBound op = true →
        dispatchHandler t.dt op = if v then graphicsHandler op else textHandler op) ∧
      (∀ op : Byte, isBound op = false → dispatchHandler t.dt op = dispatchHandler s.dt op) ∧
      exec (if v then .vdu5 else .vdu4) t = .next t

/-- R110 to R118 with R104 (the spec's own decisions D5, D22): the nine codes without meaning change no state; around them
the painted cursors are hidden and shown again at the same places, so each is XOR-painted an even number of times. -/
def Obligations.CodesWithoutMeaningChangeNothing : Prop :=
  ∀ (s : State) (a : Byte) (i : Instr),
    i ∈ [.nul, .vdu1 a, .vdu2, .vdu3, .vdu6, .vdu7, .vdu14, .vdu15, .vdu21] →
    exec i s = .next s ∧
    (paintOk s → s.reinit = false →
      let es : List Event := (if s.fcVisible then [.request (.smXorCell (flashRect s))] else []) ++
        (if s.bcVisible then [.request (.smXorCell (blockRect s))] else [])
      runCommand i s = .next { s with trace := s.trace ++ es ++ es })

/-! ### Modes (44_mode_ext.md R232 to R236) -/

/-- R232, R234, R236 (the spec's own decision D42): selecting a supported mode that fits resets windows, origin, cursors,
colours, binding, flags and sprite selection, remaps only when the mode changes, and leaves the queue, the framer, the
flash counter and the vsync flag alone. The glyph size is the default font's, as in the reset state that R234's example
gives (log 23). -/
def Obligations.SupportedModeResetsTheState : Prop :=
  ∀ (s : State) (n : Byte) (row : ModeRow),
    modeRow s.params n = some row → geometryOk row.geometry = true → metricsOk s.params.font = true →
    s.params.font.fw.toNat ≤ row.geometry.w.toNat → s.params.font.fh.toNat ≤ row.geometry.h.toNat →
    exec (.mode n) s = .next (switched s (.builtin n) none row.geometry row.colours)

/-- R232, R233 (the spec's own decision D41) with 20_memory.md R62, R75: an unsupported mode number leaves every field but
the queue alone, records the outcome, and puts the 24 bytes of the failure text at the queue's tail, where an overflow
loses the oldest bytes. -/
def Obligations.UnsupportedModeOnlyReports : Prop :=
  ∀ (s : State) (n : Byte), modeRow s.params n = none → queueOk s →
    ∃ t es, exec (.mode n) s = .next t ∧ t = { s with queue := t.queue, trace := t.trace } ∧
      t.trace = s.trace ++ .outcome (.unsupportedMode n) :: es ∧
      (∀ e ∈ es, ∃ b, e = .outcome (.queueOverflow b)) ∧
      es.length = s.queue.count + 24 - s.params.qcap ∧
      unread t = lastN s.params.qcap (unread s ++
        [85, 110, 115, 117, 112, 112, 111, 114, 116, 101, 100, 32, 115, 99, 114, 101, 101, 110, 32, 109, 111, 100, 101,
         33])

/-- R281 with 10_state.md R27: what the mode switch of VDU 22 refuses by name. Which answers break the contract is the
model's reading (log 12), and so is that the metrics answered at the switch are the default font's (log 23). -/
def Obligations.ModeRefusesWhatHasNoMeaning : Prop :=
  ∀ (s : State) (n : Byte) (row : ModeRow), modeRow s.params n = some row →
    (geometryOk row.geometry = false → exec (.mode n) s = .refused .badGeometry) ∧
    (geometryOk row.geometry = true → metricsOk s.params.font = false → exec (.mode n) s = .refused .badMetrics) ∧
    (geometryOk row.geometry = true → metricsOk s.params.font = true →
      (row.geometry.w.toNat < s.params.font.fw.toNat ∨ row.geometry.h.toNat < s.params.font.fh.toNat) →
      exec (.mode n) s = .refused .glyphTooLarge)

/-! ### VDU 23 (44_mode_ext.md R240 to R249) -/

/-- R248: an unknown sub-command passes all ten bytes to the hook, records its outcome and changes nothing else. -/
def Obligations.UnknownSubCommandsGoToTheHook : Prop :=
  ∀ (s : State) (n d0 d1 d2 d3 d4 d5 d6 d7 : Byte), subKind s.params n = some .unknown →
    exec (.vdu23 n d0 d1 d2 d3 d4 d5 d6 d7) s = .next
      { s with trace := s.trace ++
          [.request (.smUnknown [23, n, d0, d1, d2, d3, d4, d5, d6, d7]), .outcome (.unknownSub n)] }

/-- R240, R241, R245, R246, R247 (the spec's own decisions D36, D38, D39): the kind of a number is DefineGlyph from 32 up,
and below 32 the one the map gives it, Unknown where the map does not name it; a number with two kinds is refused (R281;
log 13). The sub-commands that touch one register or issue one request do exactly that. -/
def Obligations.ExtendedCommandsDispatchOnTheKind : Prop :=
  ∀ (s : State) (n d0 d1 d2 d3 d4 d5 d6 d7 : Byte),
    let d : List Byte := [d0, d1, d2, d3, d4, d5, d6, d7]
    let run : Result := exec (.vdu23 n d0 d1 d2 d3 d4 d5 d6 d7) s
    let asks (r : Request) : State := { s with trace := s.trace ++ [.request r] }
    (32 ≤ n.toNat → subKind s.params n = some .defineGlyph) ∧
    (n.toNat < 32 → (∀ e ∈ s.params.subCmd, e.1 ≠ n) → subKind s.params n = some .unknown) ∧
    (n.toNat < 32 → ∀ k, (n, k) ∈ s.params.subCmd → (∀ e ∈ s.params.subCmd, e.1 = n → e.2 = k) →
      subKind s.params n = some k) ∧
    (n.toNat < 32 → ∀ k k', (n, k) ∈ s.params.subCmd → (n, k') ∈ s.params.subCmd → k ≠ k' →
      subKind s.params n = none) ∧
    (subKind s.params n = some .defineGlyph → run = .next (asks (.fontDefineGlyph n d))) ∧
    (subKind s.params n = some .cursorEnable → run = .next { s with cursorEnabled := d0 != 0 }) ∧
    (subKind s.params n = some .spriteSelect → run = .next { s with sprSel := d0 }) ∧
    (subKind s.params n = some .spriteDefine → run = .next (asks (.dpDefineSprite s.sprSel d))) ∧
    (subKind s.params n = none → run = .refused (.ambiguousSubCmd n))

/-- R246, 43_colour.md R217 (the spec's own decision D37): the tint sub-command writes bits 7:6 of the register d0 names,
and changes nothing for d0 above 3. -/
def Obligations.TintWritesTwoBits : Prop :=
  ∀ (s : State) (n d0 d1 d2 d3 d4 d5 d6 d7 : Byte), subKind s.params n = some .tint →
    ∃ t, exec (.vdu23 n d0 d1 d2 d3 d4 d5 d6 d7) s = .next t ∧
      let written (old new : Byte) : Prop := new.toNat / 64 = d1.toNat / 64 ∧ new.toNat % 64 = old.toNat % 64
      (d0.toNat = 0 → t = { s with col := { s.col with tfg := t.col.tfg } } ∧ written s.col.tfg t.col.tfg) ∧
      (d0.toNat = 1 → t = { s with col := { s.col with tbg := t.col.tbg } } ∧ written s.col.tbg t.col.tbg) ∧
      (d0.toNat = 2 → t = { s with col := { s.col with gfg := t.col.gfg } } ∧ written s.col.gfg t.col.gfg) ∧
      (d0.toNat = 3 → t = { s with col := { s.col with gbg := t.col.gbg } } ∧ written s.col.gbg t.col.gbg) ∧
      (3 < d0.toNat → t = s)

/-- R243, R244 with 42_window_graphics.md R191 and 60_exceptions.md R263 (the spec's own decisions D35, D36): font select
reads the glyph size of the font then active and clamps the text window into the new grid, right and bottom first, then left
and top, then both cursors; the result is legal. Eight sentinel bytes leave the font in force as it was. Any other select
applies the bytes that are no sentinel and leaves the metrics the Font collaborator answers, which R281 refuses where they
have no meaning; where no answer is given, they are a free value that fits (log 8), and the command completes. -/
def Obligations.FontSelectReclampsTheTextState : Prop :=
  ∀ (s : State) (n d0 d1 d2 d3 d4 d5 d6 d7 : Byte), subKind s.params n = some .fontSelect →
    let d : List Byte := [d0, d1, d2, d3, d4, d5, d6, d7]
    let run : Result := exec (.vdu23 n d0 d1 d2 d3 d4 d5 d6 d7) s
    let applied : Collab :=
      { s.collab with
        fontParams := List.zipWith (fun old b => if b = 255 then old else some b) s.collab.fontParams d
        free := s.collab.free + 1 }
    let after (m : Metrics) (c : Collab) : State :=
      let r := min s.tw.r (s.scr.w / m.fw.toNat - 1)
      let b := min s.tw.b (s.scr.h / m.fh.toNat - 1)
      let l := min s.tw.l r
      let t := min s.tw.t b
      { s with
        scr := { s.scr with fw := m.fw.toNat, fh := m.fh.toNat }
        tw := ⟨l, b, r, t⟩
        txt := ⟨min (max s.txt.x l) r, min (max s.txt.y t) b⟩
        ed := ⟨min (max s.ed.x l) r, min (max s.ed.y t) b⟩
        collab := c
        trace := s.trace ++ [.request (.fontSelect d), .request .fontMetrics] }
    let fits (m : Metrics) : Prop := metricsOk m = true ∧ m.fw.toNat ≤ s.scr.w ∧ m.fh.toNat ≤ s.scr.h
    let answers (m : Metrics) (c : Collab) : Prop :=
      (fits m → run = .next (after m c) ∧ textOk (after m c)) ∧
      (metricsOk m = false → run = .refused .badMetrics) ∧
      (metricsOk m = true → (s.scr.w < m.fw.toNat ∨ s.scr.h < m.fh.toNat) → run = .refused .glyphTooLarge)
    ((∀ x ∈ d, x = 255) → answers s.collab.font s.collab) ∧
    ((∃ x ∈ d, x ≠ 255) →
      (∀ m rest, s.collab.fontAnswers = m :: rest → answers m { applied with font := m, fontAnswers := rest }) ∧
      (s.collab.fontAnswers = [] → 0 < s.scr.w → 0 < s.scr.h →
        ∃ m, fits m ∧ run = .next (after m { applied with font := m }) ∧ textOk (after m { applied with font := m })))

/-- R249 with R234, R236 (the spec's own decisions D40, D42): a custom mode is always accepted, always remaps, and resets
the whole state as any mode switch does; its geometry is the collaborator's answer, which R281 refuses where it has no
meaning, or, where none is given, a free value that holds the font's glyph (log 9). The glyph size is the default font's
(log 23), the colours those of `customColours` (log 26). -/
def Obligations.CustomModeAlwaysRemaps : Prop :=
  ∀ (s : State) (n d0 d1 d2 d3 d4 d5 d6 d7 : Byte), subKind s.params n = some .modeDefine →
    let d : List Byte := [d0, d1, d2, d3, d4, d5, d6, d7]
    let run : Result := exec (.vdu23 n d0 d1 d2 d3 d4 d5 d6 d7) s
    let m : Metrics := s.params.font
    let after (g : Geometry) (rest : List Geometry) : State :=
      { switched s .custom (some d) g s.params.customColours with
        collab := { s.collab with font := m, fontParams := List.replicate 8 none, geometryAnswers := rest,
                                  free := s.collab.free + 1 } }
    (∀ g rest, s.collab.geometryAnswers = g :: rest →
      (geometryOk g = true → metricsOk m = true → m.fw.toNat ≤ g.w.toNat → m.fh.toNat ≤ g.h.toNat →
        run = .next (after g rest)) ∧
      (geometryOk g = false → run = .refused .badGeometry) ∧
      (geometryOk g = true → metricsOk m = false → run = .refused .badMetrics) ∧
      (geometryOk g = true → metricsOk m = true → (g.w.toNat < m.fw.toNat ∨ g.h.toNat < m.fh.toNat) →
        run = .refused .glyphTooLarge)) ∧
    (s.collab.geometryAnswers = [] → metricsOk m = true →
      ∃ g, geometryOk g = true ∧ m.fw.toNat ≤ g.w.toNat ∧ m.fh.toNat ≤ g.h.toNat ∧ run = .next (after g []))

/-! ### Ticks, the gate, queries (60_exceptions.md R265 to R277) -/

/-- R268, R269 (the spec's own decisions D23, D24): the blink and flash counters, at and below their thresholds. -/
def Obligations.CountersFireAtTheirThresholds : Prop :=
  ∀ (s : State),
    let n : Nat := if s.edit then 160 else 320
    (s.blinkCnt + 1 < n → blink s = { s with blinkCnt := s.blinkCnt + 1 }) ∧
    (n ≤ s.blinkCnt + 1 → s.cursorEnabled = false → blink s = { s with blinkCnt := 0 }) ∧
    (n ≤ s.blinkCnt + 1 → s.cursorEnabled = true →
      blink s = { s with blinkCnt := 0, fcVisible := !s.fcVisible,
                         trace := s.trace ++ [.request (.smXorCell (flashRect s))] }) ∧
    (s.flashCnt + 1 < s.params.flashPeriod → flash s = { s with flashCnt := s.flashCnt + 1 }) ∧
    (s.params.flashPeriod ≤ s.flashCnt + 1 →
      flash s = { s with flashCnt := 0, trace := s.trace ++ [.request .smFlashSwap] })

/-- R268's property, which the spec derives, the source's "Blink idempotence": with nothing queued, 2N ticks (each one
arrival, one test of the empty queue and one counter update, log 5, log 6) bring the flashing cursor and the blink counter
back to where they were. -/
def Obligations.TwoBlinkPeriodsRestoreTheCursor : Prop :=
  ∀ (s : State), idle s → s.cursorEnabled = true → s.blinkCnt < blinkThreshold s →
    ∃ t, Host.Core.run Sys2Proof.core (6 * blinkThreshold s) s = .next t ∧ idle t ∧
      t.fcVisible = s.fcVisible ∧ t.blinkCnt = s.blinkCnt

/-- R265, R267, R270 (the spec's own decision D25): a tick whose drain loop finds the queue empty ends with blink and then
flash, and the one pending tick, if any, starts; a tick that arrives while one runs only becomes pending, and before startup
it is refused (70_reset_and_hazards.md R293; log 22); when nobody else can move, the next tick arrives (the last clause, and
that turns come from a schedule, is the model's, log 5; the consumer's steps are log 6, and that it takes them before startup
too is log 22). -/
def Obligations.TicksEndCoalesceAndArrive : Prop :=
  ∀ (s : State),
    (draining s → s.queue.count = 0 →
      step s = .next { s with agents := { s.agents with consumer := .counting } } ∧
      step { s with agents := { s.agents with consumer := .counting } } =
        .next { flash (blink s) with agents :=
          { s.agents with consumer := if s.agents.tickPending then .draining else .idle, tickPending := false } }) ∧
    (∀ rest, s.agents.sched = .tick :: rest →
      (s.scr.mode ≠ .noMode → s.agents.consumer = .idle →
        step s = .next { s with agents := { s.agents with sched := rest, consumer := .draining } }) ∧
      (s.scr.mode ≠ .noMode → s.agents.consumer ≠ .idle →
        step s = .next { s with agents := { s.agents with sched := rest, tickPending := true } }) ∧
      (s.scr.mode = .noMode → step s = .refused .beforeStartup)) ∧
    (idle s → step s = .next { s with agents := { s.agents with consumer := .draining } })

/-- R276, R277 (the spec's own decision D45): a pulse sets the flag and pulses do not add up; a caller is acknowledged and
clears the flag if it is set, and is held, with nothing else changed, while it is not (log 20). A step whose turn is
`VSYNC`, `WAIT_VSYNC` or a held caller (00_scope.md R9) has these effects; that the turn comes from a schedule is the
model's (log 5), and so is that it is served before startup too (log 22). -/
def Obligations.VsyncGateHoldsUntilSet : Prop :=
  ∀ (s : State),
    setVsync (setVsync s) = setVsync s ∧ setVsync s = { s with vsync := true } ∧
    (s.vsync = true → waitVsync s = { s with vsync := false, trace := s.trace ++ [.vsyncAck] }) ∧
    (s.vsync = false → waitVsync s = { s with agents := { s.agents with waiters := s.agents.waiters + 1 } }) ∧
    (s.vsync = false → waiterTurn s = s) ∧
    (s.vsync = true → 0 < s.agents.waiters →
      waiterTurn s = { s with vsync := false, trace := s.trace ++ [.vsyncAck],
                              agents := { s.agents with waiters := s.agents.waiters - 1 } }) ∧
    (∀ turn rest, s.agents.sched = turn :: rest →
      let s' : State := { s with agents := { s.agents with sched := rest } }
      (turn = .vsync → step s = .next (setVsync s')) ∧
      (turn = .waitVsync → step s = .next (waitVsync s')) ∧
      (turn = .waiter → step s = .next (waiterTurn s'))) ∧
    (s.agents.sched = [] → s.vsync = true → 0 < s.agents.waiters → step s = .next (waiterTurn s))

/-- R273, R274 (the spec's own decisions D10, D44), 20_memory.md R68, R69: a query changes nothing, whatever state it is
asked in; its reply is recorded (log 4), and asked again at once it gets the same reply. The reply is the block's own state
for every query but the two that ask for a character, which read it from the collaborator (log 10). A step whose turn is
`QUERY` (00_scope.md R9) answers it; that the turn comes from a schedule is the model's (log 5), and so is that it is served
before startup too (log 22). -/
def Obligations.QueriesChangeNoState : Prop :=
  ∀ (s : State) (q : Query),
    onlyTrace s (answerQuery q s) ∧
    (∃ a, (answerQuery q s).trace.getLast? = some (.reply q a) ∧
      (answerQuery q (answerQuery q s)).trace.getLast? = some (.reply q a)) ∧
    (∀ rest, s.agents.sched = .query q :: rest →
      step s = .next (answerQuery q { s with agents := { s.agents with sched := rest } })) ∧
    (q ≠ .charAtText → q ≠ .charAtEdit →
      answerQuery q s = { s with trace := s.trace ++ [.reply q (queryValue q 0 s)] }) ∧
    answerQuery .charAtText s = { s with trace := s.trace ++
      [.request (.smReadChar s.txt.x s.txt.y), .reply .charAtText (.char (s.readChar s.txt))] } ∧
    answerQuery .charAtEdit s = { s with trace := s.trace ++
      [.request (.smReadChar s.ed.x s.ed.y), .reply .charAtEdit (.char (s.readChar s.ed))] } ∧
    queryValue .textCursor 0 s = .cell s.txt ∧ queryValue .editCursor 0 s = .cell s.ed ∧
    queryValue .screenMode 0 s = .mode s.scr.mode ∧ queryValue .gfxColours 0 s = .pair s.col.gfg s.col.gbg ∧
    queryValue .textWindowCells 0 s = .cells s.tw ∧
    queryValue .textWindowPixels 0 s = .pixels (cellRect s.scr s.tw) ∧
    queryValue .gfxWindowExternal 0 s = .window s.gw ∧ queryValue .gfxWindowInternal 0 s = .pixels (gclip s) ∧
    queryValue .origin 0 s = .point s.org ∧ queryValue .gfxHistory 0 s = .points s.g0 s.g1 s.g2 ∧
    queryValue .plotModes 0 s = .pair s.col.gfgAct s.col.gbgAct ∧
    queryValue .colourTint 0 s = .colours s.col.tfg s.col.tbg s.col.gfg s.col.gbg ∧
    queryValue .glyphSize 0 s = .size s.scr.fw s.scr.fh ∧
    queryValue .windowSize 0 s = .size (s.tw.r - s.tw.l + 1) (s.tw.b - s.tw.t + 1)

/-! ### Rules of the whole machine -/

/-- 41_cursor.md R157 (the spec's own decision D19): edit mode is left only by a mode switch, which only VDU 22 and VDU 23
perform. -/
def Obligations.EditModeEndsOnlyAtAModeSwitch : Prop :=
  ∀ (i : Instr) (s t : State), s.reinit = false → s.edit = true → exec i s = .next t →
    (t.edit = true ∨ t.reinit = true) ∧
    (t.reinit = true → (∃ n, i = .mode n) ∨ ∃ n d0 d1 d2 d3 d4 d5 d6 d7, i = .vdu23 n d0 d1 d2 d3 d4 d5 d6 d7)

/-- 10_state.md R33 (the spec's own decision D31): only PLOT and the mode switch write the two older points of the graphics
history. -/
def Obligations.HistoryIsPushedByPlotOnly : Prop :=
  ∀ (i : Instr) (s t : State), s.reinit = false → exec i s = .next t →
    (∃ k x y, i = .plot k x y) ∨ t.reinit = true ∨ (t.g1 = s.g1 ∧ t.g2 = s.g2)

/-- 10_state.md R24, R25: only VDU 4, VDU 5 and the mode switch write the dispatch entries and the binding flag. -/
def Obligations.BindingChangesOnlyByThreeCommands : Prop :=
  ∀ (i : Instr) (s t : State), s.reinit = false → exec i s = .next t →
    i = .vdu4 ∨ i = .vdu5 ∨ t.reinit = true ∨ (t.dt = s.dt ∧ t.vdu5 = s.vdu5)

/-- 10_state.md R39, R41, R45; 44_mode_ext.md R234: no command writes the platform parameters (log 1), the framer, the
flash counter, the vsync flag or the agents (log 5); only VDU 22 writes the queue. -/
def Obligations.NoCommandTouchesTheTickOrTheFramer : Prop :=
  ∀ (i : Instr) (s t : State), exec i s = .next t →
    t.params = s.params ∧ t.framer = s.framer ∧ t.flashCnt = s.flashCnt ∧ t.vsync = s.vsync ∧ t.agents = s.agents ∧
    ((∃ n, i = .mode n) ∨ t.queue = s.queue)

/-- 20_memory.md R70 with 00_scope.md R10: the record of requests and outcomes (the model's, log 4) only grows; no step
rewrites it. -/
def Obligations.TheTraceOnlyGrows : Prop :=
  ∀ (s t : State), step s = .next t → ∃ es, t.trace = s.trace ++ es

/-- 41_cursor.md R131 to R144, R150, 42_window_graphics.md R188: under the VDU 4 binding the text commands do not depend on the graphics registers: two
states that differ only in those give the same text cursor and the same transactions. -/
def Obligations.TextCommandsIgnoreGraphicsRegisters : Prop :=
  ∀ (s t : State) (i : Instr) (gw : GfxWindow) (org p0 p1 p2 : Point) (gfg gbg ga ba : Byte),
    (i ∈ [.left, .right, .down, .up, .cls, .cr, .home, .del] ∨ (∃ x y, i = .tab x y) ∨ (∃ c, i = .print c) ∨
      ∃ l b r u, i = .twindow l b r u) →
    s.vdu5 = false → exec i s = .next t →
    exec i { s with gw := gw, org := org, g0 := p0, g1 := p1, g2 := p2
                    col := { s.col with gfg := gfg, gbg := gbg, gfgAct := ga, gbgAct := ba } } =
      .next { t with gw := gw, org := org, g0 := p0, g1 := p1, g2 := p2
                     col := { t.col with gfg := gfg, gbg := gbg, gfgAct := ga, gbgAct := ba } }

/-- 40_framer_dispatch.md R104 with 41_cursor.md R159 to R163 (the spec's own decision D22): the handler of every command
runs with both cursors hidden, each XOR-painted once more if it was shown; afterwards the flashing cursor is toggled, at its
place then, if it was shown before and is enabled, and the block cursor if edit mode is on; after a mode switch neither is
(log 15, log 16). -/
def Obligations.HandlersRunWithCursorsHidden : Prop :=
  ∀ (i : Instr) (s : State),
    let hidden : State :=
      { s with
        fcVisible := false
        bcVisible := false
        reinit := false
        trace := s.trace ++ (if s.fcVisible then [.request (.smXorCell (flashRect s))] else []) ++
          (if s.bcVisible then [.request (.smXorCell (blockRect s))] else []) }
    let shown (t : State) : State :=
      if t.reinit then { t with reinit := false }
      else
        let flashes := s.fcVisible && t.cursorEnabled
        { t with
          fcVisible := if flashes then !t.fcVisible else t.fcVisible
          bcVisible := if t.edit then !t.bcVisible else t.bcVisible
          trace := t.trace ++ (if flashes then [.request (.smXorCell (flashRect t))] else []) ++
            (if t.edit then [.request (.smXorCell (blockRect t))] else []) }
    (∀ t, exec i hidden = .next t → runCommand i s = .next (shown t)) ∧
    (∀ r, exec i hidden = .fault r → runCommand i s = .fault r) ∧
    (∀ r, exec i hidden = .refused r → runCommand i s = .refused r)
end

