-- ==== Sys2Proof/Laws/State.lean ====
section
/-! SUPPORT. What each named update of the state does to each field, one lemma per field, true by rfl. -/

namespace Sys2Proof.Machine

section
variable (s : State)

/-! ### `emit` -/

@[simp] theorem emit_params (e : Event) : (s.emit e).params = s.params := rfl
@[simp] theorem emit_queue (e : Event) : (s.emit e).queue = s.queue := rfl
@[simp] theorem emit_framer (e : Event) : (s.emit e).framer = s.framer := rfl
@[simp] theorem emit_dt (e : Event) : (s.emit e).dt = s.dt := rfl
@[simp] theorem emit_vdu5 (e : Event) : (s.emit e).vdu5 = s.vdu5 := rfl
@[simp] theorem emit_scr (e : Event) : (s.emit e).scr = s.scr := rfl
@[simp] theorem emit_tw (e : Event) : (s.emit e).tw = s.tw := rfl
@[simp] theorem emit_gw (e : Event) : (s.emit e).gw = s.gw := rfl
@[simp] theorem emit_org (e : Event) : (s.emit e).org = s.org := rfl
@[simp] theorem emit_txt (e : Event) : (s.emit e).txt = s.txt := rfl
@[simp] theorem emit_ed (e : Event) : (s.emit e).ed = s.ed := rfl
@[simp] theorem emit_edit (e : Event) : (s.emit e).edit = s.edit := rfl
@[simp] theorem emit_g0 (e : Event) : (s.emit e).g0 = s.g0 := rfl
@[simp] theorem emit_g1 (e : Event) : (s.emit e).g1 = s.g1 := rfl
@[simp] theorem emit_g2 (e : Event) : (s.emit e).g2 = s.g2 := rfl
@[simp] theorem emit_col (e : Event) : (s.emit e).col = s.col := rfl
@[simp] theorem emit_cursorEnabled (e : Event) : (s.emit e).cursorEnabled = s.cursorEnabled := rfl
@[simp] theorem emit_fcVisible (e : Event) : (s.emit e).fcVisible = s.fcVisible := rfl
@[simp] theorem emit_bcVisible (e : Event) : (s.emit e).bcVisible = s.bcVisible := rfl
@[simp] theorem emit_vsync (e : Event) : (s.emit e).vsync = s.vsync := rfl
@[simp] theorem emit_sprSel (e : Event) : (s.emit e).sprSel = s.sprSel := rfl
@[simp] theorem emit_blinkCnt (e : Event) : (s.emit e).blinkCnt = s.blinkCnt := rfl
@[simp] theorem emit_flashCnt (e : Event) : (s.emit e).flashCnt = s.flashCnt := rfl
@[simp] theorem emit_reinit (e : Event) : (s.emit e).reinit = s.reinit := rfl
@[simp] theorem emit_agents (e : Event) : (s.emit e).agents = s.agents := rfl
@[simp] theorem emit_collab (e : Event) : (s.emit e).collab = s.collab := rfl
@[simp] theorem emit_trace (e : Event) : (s.emit e).trace = s.trace ++ [e] := rfl

/-! ### `request` -/

@[simp] theorem request_params (r : Request) : (s.request r).params = s.params := rfl
@[simp] theorem request_queue (r : Request) : (s.request r).queue = s.queue := rfl
@[simp] theorem request_framer (r : Request) : (s.request r).framer = s.framer := rfl
@[simp] theorem request_dt (r : Request) : (s.request r).dt = s.dt := rfl
@[simp] theorem request_vdu5 (r : Request) : (s.request r).vdu5 = s.vdu5 := rfl
@[simp] theorem request_scr (r : Request) : (s.request r).scr = s.scr := rfl
@[simp] theorem request_tw (r : Request) : (s.request r).tw = s.tw := rfl
@[simp] theorem request_gw (r : Request) : (s.request r).gw = s.gw := rfl
@[simp] theorem request_org (r : Request) : (s.request r).org = s.org := rfl
@[simp] theorem request_txt (r : Request) : (s.request r).txt = s.txt := rfl
@[simp] theorem request_ed (r : Request) : (s.request r).ed = s.ed := rfl
@[simp] theorem request_edit (r : Request) : (s.request r).edit = s.edit := rfl
@[simp] theorem request_g0 (r : Request) : (s.request r).g0 = s.g0 := rfl
@[simp] theorem request_g1 (r : Request) : (s.request r).g1 = s.g1 := rfl
@[simp] theorem request_g2 (r : Request) : (s.request r).g2 = s.g2 := rfl
@[simp] theorem request_col (r : Request) : (s.request r).col = s.col := rfl
@[simp] theorem request_cursorEnabled (r : Request) : (s.request r).cursorEnabled = s.cursorEnabled := rfl
@[simp] theorem request_fcVisible (r : Request) : (s.request r).fcVisible = s.fcVisible := rfl
@[simp] theorem request_bcVisible (r : Request) : (s.request r).bcVisible = s.bcVisible := rfl
@[simp] theorem request_vsync (r : Request) : (s.request r).vsync = s.vsync := rfl
@[simp] theorem request_sprSel (r : Request) : (s.request r).sprSel = s.sprSel := rfl
@[simp] theorem request_blinkCnt (r : Request) : (s.request r).blinkCnt = s.blinkCnt := rfl
@[simp] theorem request_flashCnt (r : Request) : (s.request r).flashCnt = s.flashCnt := rfl
@[simp] theorem request_reinit (r : Request) : (s.request r).reinit = s.reinit := rfl
@[simp] theorem request_agents (r : Request) : (s.request r).agents = s.agents := rfl
@[simp] theorem request_collab (r : Request) : (s.request r).collab = s.collab := rfl
@[simp] theorem request_trace (r : Request) : (s.request r).trace = s.trace ++ [.request r] := rfl

/-! ### `raise` -/

@[simp] theorem raise_params (o : Raised) : (s.raise o).params = s.params := rfl
@[simp] theorem raise_queue (o : Raised) : (s.raise o).queue = s.queue := rfl
@[simp] theorem raise_framer (o : Raised) : (s.raise o).framer = s.framer := rfl
@[simp] theorem raise_dt (o : Raised) : (s.raise o).dt = s.dt := rfl
@[simp] theorem raise_vdu5 (o : Raised) : (s.raise o).vdu5 = s.vdu5 := rfl
@[simp] theorem raise_scr (o : Raised) : (s.raise o).scr = s.scr := rfl
@[simp] theorem raise_tw (o : Raised) : (s.raise o).tw = s.tw := rfl
@[simp] theorem raise_gw (o : Raised) : (s.raise o).gw = s.gw := rfl
@[simp] theorem raise_org (o : Raised) : (s.raise o).org = s.org := rfl
@[simp] theorem raise_txt (o : Raised) : (s.raise o).txt = s.txt := rfl
@[simp] theorem raise_ed (o : Raised) : (s.raise o).ed = s.ed := rfl
@[simp] theorem raise_edit (o : Raised) : (s.raise o).edit = s.edit := rfl
@[simp] theorem raise_g0 (o : Raised) : (s.raise o).g0 = s.g0 := rfl
@[simp] theorem raise_g1 (o : Raised) : (s.raise o).g1 = s.g1 := rfl
@[simp] theorem raise_g2 (o : Raised) : (s.raise o).g2 = s.g2 := rfl
@[simp] theorem raise_col (o : Raised) : (s.raise o).col = s.col := rfl
@[simp] theorem raise_cursorEnabled (o : Raised) : (s.raise o).cursorEnabled = s.cursorEnabled := rfl
@[simp] theorem raise_fcVisible (o : Raised) : (s.raise o).fcVisible = s.fcVisible := rfl
@[simp] theorem raise_bcVisible (o : Raised) : (s.raise o).bcVisible = s.bcVisible := rfl
@[simp] theorem raise_vsync (o : Raised) : (s.raise o).vsync = s.vsync := rfl
@[simp] theorem raise_sprSel (o : Raised) : (s.raise o).sprSel = s.sprSel := rfl
@[simp] theorem raise_blinkCnt (o : Raised) : (s.raise o).blinkCnt = s.blinkCnt := rfl
@[simp] theorem raise_flashCnt (o : Raised) : (s.raise o).flashCnt = s.flashCnt := rfl
@[simp] theorem raise_reinit (o : Raised) : (s.raise o).reinit = s.reinit := rfl
@[simp] theorem raise_agents (o : Raised) : (s.raise o).agents = s.agents := rfl
@[simp] theorem raise_collab (o : Raised) : (s.raise o).collab = s.collab := rfl
@[simp] theorem raise_trace (o : Raised) : (s.raise o).trace = s.trace ++ [.outcome o] := rfl

/-! ### `setTxt` -/

@[simp] theorem setTxt_params (p : TextPos) : (s.setTxt p).params = s.params := rfl
@[simp] theorem setTxt_queue (p : TextPos) : (s.setTxt p).queue = s.queue := rfl
@[simp] theorem setTxt_framer (p : TextPos) : (s.setTxt p).framer = s.framer := rfl
@[simp] theorem setTxt_dt (p : TextPos) : (s.setTxt p).dt = s.dt := rfl
@[simp] theorem setTxt_vdu5 (p : TextPos) : (s.setTxt p).vdu5 = s.vdu5 := rfl
@[simp] theorem setTxt_scr (p : TextPos) : (s.setTxt p).scr = s.scr := rfl
@[simp] theorem setTxt_tw (p : TextPos) : (s.setTxt p).tw = s.tw := rfl
@[simp] theorem setTxt_gw (p : TextPos) : (s.setTxt p).gw = s.gw := rfl
@[simp] theorem setTxt_org (p : TextPos) : (s.setTxt p).org = s.org := rfl
@[simp] theorem setTxt_txt (p : TextPos) : (s.setTxt p).txt = p := rfl
@[simp] theorem setTxt_ed (p : TextPos) : (s.setTxt p).ed = s.ed := rfl
@[simp] theorem setTxt_edit (p : TextPos) : (s.setTxt p).edit = s.edit := rfl
@[simp] theorem setTxt_g0 (p : TextPos) : (s.setTxt p).g0 = s.g0 := rfl
@[simp] theorem setTxt_g1 (p : TextPos) : (s.setTxt p).g1 = s.g1 := rfl
@[simp] theorem setTxt_g2 (p : TextPos) : (s.setTxt p).g2 = s.g2 := rfl
@[simp] theorem setTxt_col (p : TextPos) : (s.setTxt p).col = s.col := rfl
@[simp] theorem setTxt_cursorEnabled (p : TextPos) : (s.setTxt p).cursorEnabled = s.cursorEnabled := rfl
@[simp] theorem setTxt_fcVisible (p : TextPos) : (s.setTxt p).fcVisible = s.fcVisible := rfl
@[simp] theorem setTxt_bcVisible (p : TextPos) : (s.setTxt p).bcVisible = s.bcVisible := rfl
@[simp] theorem setTxt_vsync (p : TextPos) : (s.setTxt p).vsync = s.vsync := rfl
@[simp] theorem setTxt_sprSel (p : TextPos) : (s.setTxt p).sprSel = s.sprSel := rfl
@[simp] theorem setTxt_blinkCnt (p : TextPos) : (s.setTxt p).blinkCnt = s.blinkCnt := rfl
@[simp] theorem setTxt_flashCnt (p : TextPos) : (s.setTxt p).flashCnt = s.flashCnt := rfl
@[simp] theorem setTxt_reinit (p : TextPos) : (s.setTxt p).reinit = s.reinit := rfl
@[simp] theorem setTxt_agents (p : TextPos) : (s.setTxt p).agents = s.agents := rfl
@[simp] theorem setTxt_collab (p : TextPos) : (s.setTxt p).collab = s.collab := rfl
@[simp] theorem setTxt_trace (p : TextPos) : (s.setTxt p).trace = s.trace := rfl

/-! ### `setEd` -/

@[simp] theorem setEd_params (p : TextPos) : (s.setEd p).params = s.params := rfl
@[simp] theorem setEd_queue (p : TextPos) : (s.setEd p).queue = s.queue := rfl
@[simp] theorem setEd_framer (p : TextPos) : (s.setEd p).framer = s.framer := rfl
@[simp] theorem setEd_dt (p : TextPos) : (s.setEd p).dt = s.dt := rfl
@[simp] theorem setEd_vdu5 (p : TextPos) : (s.setEd p).vdu5 = s.vdu5 := rfl
@[simp] theorem setEd_scr (p : TextPos) : (s.setEd p).scr = s.scr := rfl
@[simp] theorem setEd_tw (p : TextPos) : (s.setEd p).tw = s.tw := rfl
@[simp] theorem setEd_gw (p : TextPos) : (s.setEd p).gw = s.gw := rfl
@[simp] theorem setEd_org (p : TextPos) : (s.setEd p).org = s.org := rfl
@[simp] theorem setEd_txt (p : TextPos) : (s.setEd p).txt = s.txt := rfl
@[simp] theorem setEd_ed (p : TextPos) : (s.setEd p).ed = p := rfl
@[simp] theorem setEd_edit (p : TextPos) : (s.setEd p).edit = s.edit := rfl
@[simp] theorem setEd_g0 (p : TextPos) : (s.setEd p).g0 = s.g0 := rfl
@[simp] theorem setEd_g1 (p : TextPos) : (s.setEd p).g1 = s.g1 := rfl
@[simp] theorem setEd_g2 (p : TextPos) : (s.setEd p).g2 = s.g2 := rfl
@[simp] theorem setEd_col (p : TextPos) : (s.setEd p).col = s.col := rfl
@[simp] theorem setEd_cursorEnabled (p : TextPos) : (s.setEd p).cursorEnabled = s.cursorEnabled := rfl
@[simp] theorem setEd_fcVisible (p : TextPos) : (s.setEd p).fcVisible = s.fcVisible := rfl
@[simp] theorem setEd_bcVisible (p : TextPos) : (s.setEd p).bcVisible = s.bcVisible := rfl
@[simp] theorem setEd_vsync (p : TextPos) : (s.setEd p).vsync = s.vsync := rfl
@[simp] theorem setEd_sprSel (p : TextPos) : (s.setEd p).sprSel = s.sprSel := rfl
@[simp] theorem setEd_blinkCnt (p : TextPos) : (s.setEd p).blinkCnt = s.blinkCnt := rfl
@[simp] theorem setEd_flashCnt (p : TextPos) : (s.setEd p).flashCnt = s.flashCnt := rfl
@[simp] theorem setEd_reinit (p : TextPos) : (s.setEd p).reinit = s.reinit := rfl
@[simp] theorem setEd_agents (p : TextPos) : (s.setEd p).agents = s.agents := rfl
@[simp] theorem setEd_collab (p : TextPos) : (s.setEd p).collab = s.collab := rfl
@[simp] theorem setEd_trace (p : TextPos) : (s.setEd p).trace = s.trace := rfl

/-! ### `setG0` -/

@[simp] theorem setG0_params (p : Point) : (s.setG0 p).params = s.params := rfl
@[simp] theorem setG0_queue (p : Point) : (s.setG0 p).queue = s.queue := rfl
@[simp] theorem setG0_framer (p : Point) : (s.setG0 p).framer = s.framer := rfl
@[simp] theorem setG0_dt (p : Point) : (s.setG0 p).dt = s.dt := rfl
@[simp] theorem setG0_vdu5 (p : Point) : (s.setG0 p).vdu5 = s.vdu5 := rfl
@[simp] theorem setG0_scr (p : Point) : (s.setG0 p).scr = s.scr := rfl
@[simp] theorem setG0_tw (p : Point) : (s.setG0 p).tw = s.tw := rfl
@[simp] theorem setG0_gw (p : Point) : (s.setG0 p).gw = s.gw := rfl
@[simp] theorem setG0_org (p : Point) : (s.setG0 p).org = s.org := rfl
@[simp] theorem setG0_txt (p : Point) : (s.setG0 p).txt = s.txt := rfl
@[simp] theorem setG0_ed (p : Point) : (s.setG0 p).ed = s.ed := rfl
@[simp] theorem setG0_edit (p : Point) : (s.setG0 p).edit = s.edit := rfl
@[simp] theorem setG0_g0 (p : Point) : (s.setG0 p).g0 = p := rfl
@[simp] theorem setG0_g1 (p : Point) : (s.setG0 p).g1 = s.g1 := rfl
@[simp] theorem setG0_g2 (p : Point) : (s.setG0 p).g2 = s.g2 := rfl
@[simp] theorem setG0_col (p : Point) : (s.setG0 p).col = s.col := rfl
@[simp] theorem setG0_cursorEnabled (p : Point) : (s.setG0 p).cursorEnabled = s.cursorEnabled := rfl
@[simp] theorem setG0_fcVisible (p : Point) : (s.setG0 p).fcVisible = s.fcVisible := rfl
@[simp] theorem setG0_bcVisible (p : Point) : (s.setG0 p).bcVisible = s.bcVisible := rfl
@[simp] theorem setG0_vsync (p : Point) : (s.setG0 p).vsync = s.vsync := rfl
@[simp] theorem setG0_sprSel (p : Point) : (s.setG0 p).sprSel = s.sprSel := rfl
@[simp] theorem setG0_blinkCnt (p : Point) : (s.setG0 p).blinkCnt = s.blinkCnt := rfl
@[simp] theorem setG0_flashCnt (p : Point) : (s.setG0 p).flashCnt = s.flashCnt := rfl
@[simp] theorem setG0_reinit (p : Point) : (s.setG0 p).reinit = s.reinit := rfl
@[simp] theorem setG0_agents (p : Point) : (s.setG0 p).agents = s.agents := rfl
@[simp] theorem setG0_collab (p : Point) : (s.setG0 p).collab = s.collab := rfl
@[simp] theorem setG0_trace (p : Point) : (s.setG0 p).trace = s.trace := rfl

/-! ### `setConsumer` -/

@[simp] theorem setConsumer_params (c : Consumer) : (s.setConsumer c).params = s.params := rfl
@[simp] theorem setConsumer_queue (c : Consumer) : (s.setConsumer c).queue = s.queue := rfl
@[simp] theorem setConsumer_framer (c : Consumer) : (s.setConsumer c).framer = s.framer := rfl
@[simp] theorem setConsumer_dt (c : Consumer) : (s.setConsumer c).dt = s.dt := rfl
@[simp] theorem setConsumer_vdu5 (c : Consumer) : (s.setConsumer c).vdu5 = s.vdu5 := rfl
@[simp] theorem setConsumer_scr (c : Consumer) : (s.setConsumer c).scr = s.scr := rfl
@[simp] theorem setConsumer_tw (c : Consumer) : (s.setConsumer c).tw = s.tw := rfl
@[simp] theorem setConsumer_gw (c : Consumer) : (s.setConsumer c).gw = s.gw := rfl
@[simp] theorem setConsumer_org (c : Consumer) : (s.setConsumer c).org = s.org := rfl
@[simp] theorem setConsumer_txt (c : Consumer) : (s.setConsumer c).txt = s.txt := rfl
@[simp] theorem setConsumer_ed (c : Consumer) : (s.setConsumer c).ed = s.ed := rfl
@[simp] theorem setConsumer_edit (c : Consumer) : (s.setConsumer c).edit = s.edit := rfl
@[simp] theorem setConsumer_g0 (c : Consumer) : (s.setConsumer c).g0 = s.g0 := rfl
@[simp] theorem setConsumer_g1 (c : Consumer) : (s.setConsumer c).g1 = s.g1 := rfl
@[simp] theorem setConsumer_g2 (c : Consumer) : (s.setConsumer c).g2 = s.g2 := rfl
@[simp] theorem setConsumer_col (c : Consumer) : (s.setConsumer c).col = s.col := rfl
@[simp] theorem setConsumer_cursorEnabled (c : Consumer) : (s.setConsumer c).cursorEnabled = s.cursorEnabled := rfl
@[simp] theorem setConsumer_fcVisible (c : Consumer) : (s.setConsumer c).fcVisible = s.fcVisible := rfl
@[simp] theorem setConsumer_bcVisible (c : Consumer) : (s.setConsumer c).bcVisible = s.bcVisible := rfl
@[simp] theorem setConsumer_vsync (c : Consumer) : (s.setConsumer c).vsync = s.vsync := rfl
@[simp] theorem setConsumer_sprSel (c : Consumer) : (s.setConsumer c).sprSel = s.sprSel := rfl
@[simp] theorem setConsumer_blinkCnt (c : Consumer) : (s.setConsumer c).blinkCnt = s.blinkCnt := rfl
@[simp] theorem setConsumer_flashCnt (c : Consumer) : (s.setConsumer c).flashCnt = s.flashCnt := rfl
@[simp] theorem setConsumer_reinit (c : Consumer) : (s.setConsumer c).reinit = s.reinit := rfl
@[simp] theorem setConsumer_agents (c : Consumer) : (s.setConsumer c).agents = { s.agents with consumer := c } := rfl
@[simp] theorem setConsumer_collab (c : Consumer) : (s.setConsumer c).collab = s.collab := rfl
@[simp] theorem setConsumer_trace (c : Consumer) : (s.setConsumer c).trace = s.trace := rfl

/-! ### `defaultFont` -/

@[simp] theorem defaultFont_params : s.defaultFont.params = s.params := rfl
@[simp] theorem defaultFont_queue : s.defaultFont.queue = s.queue := rfl
@[simp] theorem defaultFont_framer : s.defaultFont.framer = s.framer := rfl
@[simp] theorem defaultFont_dt : s.defaultFont.dt = s.dt := rfl
@[simp] theorem defaultFont_vdu5 : s.defaultFont.vdu5 = s.vdu5 := rfl
@[simp] theorem defaultFont_scr : s.defaultFont.scr = s.scr := rfl
@[simp] theorem defaultFont_tw : s.defaultFont.tw = s.tw := rfl
@[simp] theorem defaultFont_gw : s.defaultFont.gw = s.gw := rfl
@[simp] theorem defaultFont_org : s.defaultFont.org = s.org := rfl
@[simp] theorem defaultFont_txt : s.defaultFont.txt = s.txt := rfl
@[simp] theorem defaultFont_ed : s.defaultFont.ed = s.ed := rfl
@[simp] theorem defaultFont_edit : s.defaultFont.edit = s.edit := rfl
@[simp] theorem defaultFont_g0 : s.defaultFont.g0 = s.g0 := rfl
@[simp] theorem defaultFont_g1 : s.defaultFont.g1 = s.g1 := rfl
@[simp] theorem defaultFont_g2 : s.defaultFont.g2 = s.g2 := rfl
@[simp] theorem defaultFont_col : s.defaultFont.col = s.col := rfl
@[simp] theorem defaultFont_cursorEnabled : s.defaultFont.cursorEnabled = s.cursorEnabled := rfl
@[simp] theorem defaultFont_fcVisible : s.defaultFont.fcVisible = s.fcVisible := rfl
@[simp] theorem defaultFont_bcVisible : s.defaultFont.bcVisible = s.bcVisible := rfl
@[simp] theorem defaultFont_vsync : s.defaultFont.vsync = s.vsync := rfl
@[simp] theorem defaultFont_sprSel : s.defaultFont.sprSel = s.sprSel := rfl
@[simp] theorem defaultFont_blinkCnt : s.defaultFont.blinkCnt = s.blinkCnt := rfl
@[simp] theorem defaultFont_flashCnt : s.defaultFont.flashCnt = s.flashCnt := rfl
@[simp] theorem defaultFont_reinit : s.defaultFont.reinit = s.reinit := rfl
@[simp] theorem defaultFont_agents : s.defaultFont.agents = s.agents := rfl
@[simp] theorem defaultFont_collab : s.defaultFont.collab =
    { s.collab with font := s.params.font, fontParams := List.replicate fontParamCount none } := rfl
@[simp] theorem defaultFont_trace : s.defaultFont.trace = s.trace := rfl

end

end Sys2Proof.Machine
end

