-- ==== Sys2Proof/Laws/Ops.lean ====
section
/-! SUPPORT. What the shared operations can do: sequencing, the queue buffer's canonical form and its read-after-write
laws, `enqueue`, `pop`, and a collaborator's next answer. -/

namespace Sys2Proof.Machine

/-! ### Sequencing -/

@[simp] theorem andThen_next (s : State) (f : State → Result) : andThen (.next s) f = f s := rfl

@[simp] theorem andThen_fault (r : Fault) (f : State → Result) : andThen (.fault r) f = .fault r := rfl

@[simp] theorem andThen_refused (r : Refusal) (f : State → Result) : andThen (.refused r) f = .refused r := rfl

theorem andThen_eq_next {o : Result} {f : State → Result} {t : State} :
    andThen o f = .next t ↔ ∃ s, o = .next s ∧ f s = .next t := by
  cases o <;> simp

theorem andThen_eq_fault {o : Result} {f : State → Result} {r : Fault} :
    andThen o f = .fault r ↔ o = .fault r ∨ ∃ s, o = .next s ∧ f s = .fault r := by
  cases o <;> simp

/-! ### The queue buffer -/

theorem Memory.read_put_same (fill : Nat → Byte) (m : Memory) (a : Nat) (v : Byte) (h : ∀ e ∈ m, a < e.1) :
    (Memory.put fill a v m).read fill a = v := by
  unfold Memory.put
  split
  · rename_i hv
    have : ∀ m : Memory, (∀ e ∈ m, a < e.1) → m.read fill a = fill a := by
      intro m hm
      induction m with
      | nil => rfl
      | cons e m ih =>
        have := hm e List.mem_cons_self
        rw [Memory.read, if_neg (by omega)]
        exact ih fun e he => hm e (List.mem_cons_of_mem _ he)
    rw [this m h, hv]
  · simp [Memory.read]

theorem Memory.read_put_other (fill : Nat → Byte) (m : Memory) {a b : Nat} (v : Byte) (h : b ≠ a) :
    (Memory.put fill a v m).read fill b = m.read fill b := by
  unfold Memory.put; split <;> simp [Memory.read, h]

/-- A read after a write to the same index of a canonical buffer gives the value written. -/
theorem Memory.read_write_same {fill : Nat → Byte} {m : Memory} (a : Nat) (v : Byte) (h : m.wf fill) :
    (m.write fill a v).read fill a = v := by
  induction m with
  | nil => exact Memory.read_put_same fill [] a v (by simp)
  | cons e m ih =>
    obtain ⟨k, w⟩ := e
    obtain ⟨hk, hm⟩ := List.pairwise_cons.1 h.1
    simp only [Memory.write]
    split
    · refine Memory.read_put_same fill _ a v fun e he => ?_
      rcases List.mem_cons.1 he with rfl | he
      · assumption
      · have := hk e he; dsimp only at this; omega
    · split
      · rename_i h'; subst h'; exact Memory.read_put_same fill _ a v hk
      · rename_i h'
        rw [Memory.read, if_neg h']
        exact ih ⟨hm, fun e he => h.2 e (List.mem_cons_of_mem _ he)⟩

theorem Memory.read_write_other (fill : Nat → Byte) (m : Memory) {a b : Nat} (v : Byte) (h : b ≠ a) :
    (m.write fill a v).read fill b = m.read fill b := by
  induction m with
  | nil => exact Memory.read_put_other fill [] v h
  | cons e m ih =>
    obtain ⟨k, w⟩ := e
    simp only [Memory.write]
    split
    · exact Memory.read_put_other fill _ v h
    · split
      · rename_i h'; subst h'; rw [Memory.read_put_other fill _ v h, Memory.read, if_neg h]
      · simp [Memory.read, ih]

theorem Memory.mem_put {fill : Nat → Byte} {m : Memory} {a : Nat} {v : Byte} {e : Host.Cell}
    (h : e ∈ Memory.put fill a v m) : (e = (a, v) ∧ v ≠ fill a) ∨ e ∈ m := by
  unfold Memory.put at h
  split at h
  · exact .inr h
  · rcases List.mem_cons.1 h with h | h
    · exact .inl ⟨h, ‹_›⟩
    · exact .inr h

theorem Memory.mem_write {fill : Nat → Byte} {m : Memory} {a : Nat} {v : Byte} {e : Host.Cell}
    (h : e ∈ m.write fill a v) : (e = (a, v) ∧ v ≠ fill a) ∨ e ∈ m := by
  induction m with
  | nil => exact Memory.mem_put h
  | cons d m ih =>
    obtain ⟨k, w⟩ := d
    simp only [Memory.write] at h
    split at h
    · exact Memory.mem_put h
    · split at h
      · exact (Memory.mem_put h).imp id (List.mem_cons_of_mem _)
      · rcases List.mem_cons.1 h with h | h
        · exact .inr (h ▸ List.mem_cons_self)
        · exact (ih h).imp id (List.mem_cons_of_mem _)

theorem Memory.pairwise_put {fill : Nat → Byte} {m : Memory} {a : Nat} {v : Byte}
    (h : m.Pairwise fun x y => x.1 < y.1) (ha : ∀ e ∈ m, a < e.1) :
    (Memory.put fill a v m).Pairwise fun x y => x.1 < y.1 := by
  unfold Memory.put
  split
  · exact h
  · exact List.pairwise_cons.2 ⟨ha, h⟩

theorem Memory.pairwise_write {fill : Nat → Byte} {m : Memory} (a : Nat) (v : Byte)
    (h : m.Pairwise fun x y => x.1 < y.1) : (m.write fill a v).Pairwise fun x y => x.1 < y.1 := by
  induction m with
  | nil => exact Memory.pairwise_put .nil (by simp)
  | cons e m ih =>
    obtain ⟨k, w⟩ := e
    obtain ⟨hk, hm⟩ := List.pairwise_cons.1 h
    simp only [Memory.write]
    split
    · rename_i hak
      refine Memory.pairwise_put h fun e he => ?_
      rcases List.mem_cons.1 he with rfl | he
      · exact hak
      · exact hak.trans (hk e he)
    · split
      · rename_i hak; subst hak; exact Memory.pairwise_put hm hk
      · refine List.pairwise_cons.2 ⟨fun e he => ?_, ih hm⟩
        rcases Memory.mem_write he with ⟨rfl, -⟩ | he
        · show k < a; omega
        · exact hk e he

/-- Every write keeps the canonical form. -/
theorem Memory.wf_write {fill : Nat → Byte} {m : Memory} (a : Nat) (v : Byte) (h : m.wf fill) :
    (m.write fill a v).wf fill := by
  refine ⟨Memory.pairwise_write a v h.1, fun e he => ?_⟩
  rcases Memory.mem_write he with ⟨rfl, hv⟩ | he
  · exact hv
  · exact h.2 e he

/-! ### `enqueue` and `pop` -/

/-- Everything `enqueue` can do (20_memory.md R62). -/
theorem enqueue_cases (b : Byte) (s : State) :
    (s.queue.w < s.params.qcap ∧ s.queue.count = s.params.qcap ∧
      enqueue b s = .next ({ s with queue :=
        { buf := s.queue.buf.write (slotFill s.params) s.queue.w b, w := (s.queue.w + 1) % s.params.qcap,
          r := (s.queue.r + 1) % s.params.qcap, count := s.queue.count } }.raise (.queueOverflow b))) ∨
    (s.queue.w < s.params.qcap ∧ s.queue.count ≠ s.params.qcap ∧
      enqueue b s = .next { s with queue :=
        { buf := s.queue.buf.write (slotFill s.params) s.queue.w b, w := (s.queue.w + 1) % s.params.qcap, r := s.queue.r,
          count := s.queue.count + 1 } }) ∨
    (¬ s.queue.w < s.params.qcap ∧ enqueue b s = .fault (.queueIndex s.queue.w)) := by
  unfold enqueue
  by_cases h : s.queue.w < s.params.qcap <;> by_cases h' : s.queue.count = s.params.qcap <;> simp [h, h']

/-- Everything `pop` can do (20_memory.md R63). -/
theorem pop_cases (s : State) :
    (s.queue.r < s.params.qcap ∧ pop s = .byte (s.slot s.queue.r) { s with queue := popped s 1 }) ∨
    (¬ s.queue.r < s.params.qcap ∧ pop s = .fault (.queueIndex s.queue.r)) := by
  unfold pop popped
  by_cases h : s.queue.r < s.params.qcap <;> simp [h]

/-- What `enqueue` leaves alone: everything but the queue and the trace, which only grows. -/
theorem enqueue_frame {b : Byte} {s t : State} (h : enqueue b s = .next t) :
    t = { s with queue := t.queue, trace := t.trace } ∧ ∃ es, t.trace = s.trace ++ es := by
  rcases enqueue_cases b s with ⟨-, -, h'⟩ | ⟨-, -, h'⟩ | ⟨-, h'⟩ <;> rw [h'] at h <;> cases h
  · exact ⟨rfl, _, rfl⟩
  · exact ⟨rfl, [], by simp⟩

/-- What several enqueues leave alone. -/
theorem enqueueAll_frame {bs : List Byte} :
    ∀ {s t : State}, enqueueAll bs s = .next t →
      t = { s with queue := t.queue, trace := t.trace } ∧ ∃ es, t.trace = s.trace ++ es := by
  induction bs with
  | nil => intro s t h; cases h; exact ⟨rfl, [], by simp⟩
  | cons b bs ih =>
    intro s t h
    obtain ⟨u, h1, h2⟩ := andThen_eq_next.1 h
    obtain ⟨f1, es1, e1⟩ := enqueue_frame h1
    obtain ⟨f2, es2, e2⟩ := ih h2
    exact ⟨by rw [f2, f1], es1 ++ es2, by rw [e2, e1, List.append_assoc]⟩

/-! ### The queue read as a list -/

/-- A ring index that runs at most once round. -/
theorem mod_add_of_lt {r i c : Nat} (hr : r < c) (hi : i ≤ c) :
    (r + i) % c = if r + i < c then r + i else r + i - c := by
  split
  · exact Nat.mod_eq_of_lt ‹_›
  · rw [Nat.mod_eq_sub_mod (by omega), Nat.mod_eq_of_lt (by omega)]

@[simp] theorem unread_length (s : State) : (unread s).length = s.queue.count := by simp [unread]

theorem unread_getElem (s : State) (i : Nat) (h : i < (unread s).length) :
    (unread s)[i] = s.slot ((s.queue.r + i) % s.params.qcap) := by simp [unread]

/-- The oldest unread byte is the one in the slot of the read cursor (20_memory.md R74). -/
theorem unread_head {s : State} (hr : s.queue.r < s.params.qcap) (hc : 0 < s.queue.count) :
    (unread s).head? = some (s.slot s.queue.r) := by
  rw [List.head?_eq_getElem?, List.getElem?_eq_getElem (by simpa using hc), unread_getElem]
  simp [Nat.mod_eq_of_lt hr]

/-! ### Collaborator answers -/

@[simp] theorem nextAnswer_nil {α : Type} (free : α) : nextAnswer [] free = (free, []) := rfl

@[simp] theorem nextAnswer_cons {α : Type} (a : α) (rest : List α) (free : α) :
    nextAnswer (a :: rest) free = (a, rest) := rfl

end Sys2Proof.Machine
end

