-- ==== Sys2Proof/Laws/Cursor.lean ====
section
/-! SUPPORT. What the cursor operations can do: the text and graphics primitives, printing, the edit cursor, and the
painted cursors. Each `_cases` lemma says once everything its operation can do; each `_frame` lemma says what it leaves
alone. -/

namespace Sys2Proof.Machine

/-! ### Text primitives (41_cursor.md R131 to R134) -/

theorem textDown_cases (s : State) :
    (s.txt.y < s.tw.b ∧ textDown s = s.setTxt ⟨s.txt.x, s.txt.y + 1⟩) ∨
    (s.tw.b ≤ s.txt.y ∧ textDown s = s.request (.smScroll (textArea s) .up s.col.tbg)) := by
  unfold textDown
  by_cases h : s.txt.y < s.tw.b
  · exact .inl ⟨h, if_pos h⟩
  · exact .inr ⟨Nat.le_of_not_lt h, if_neg h⟩

theorem textUp_cases (s : State) :
    (s.tw.t < s.txt.y ∧ textUp s = s.setTxt ⟨s.txt.x, s.txt.y - 1⟩) ∨
    (s.txt.y ≤ s.tw.t ∧ textUp s = s.request (.smScroll (textArea s) .down s.col.tbg)) := by
  unfold textUp
  by_cases h : s.tw.t < s.txt.y
  · exact .inl ⟨h, if_pos h⟩
  · exact .inr ⟨Nat.le_of_not_lt h, if_neg h⟩

theorem textRight_cases (s : State) :
    (s.txt.x < s.tw.r ∧ textRight s = s.setTxt ⟨s.txt.x + 1, s.txt.y⟩) ∨
    (s.tw.r ≤ s.txt.x ∧ textRight s = textDown (s.setTxt ⟨s.tw.l, s.txt.y⟩)) := by
  unfold textRight
  by_cases h : s.txt.x < s.tw.r
  · exact .inl ⟨h, if_pos h⟩
  · exact .inr ⟨Nat.le_of_not_lt h, if_neg h⟩

theorem textLeft_cases (s : State) :
    (s.tw.l < s.txt.x ∧ textLeft s = s.setTxt ⟨s.txt.x - 1, s.txt.y⟩) ∨
    (s.txt.x ≤ s.tw.l ∧ textLeft s = textUp (s.setTxt ⟨s.tw.r, s.txt.y⟩)) := by
  unfold textLeft
  by_cases h : s.tw.l < s.txt.x
  · exact .inl ⟨h, if_pos h⟩
  · exact .inr ⟨Nat.le_of_not_lt h, if_neg h⟩

theorem textDown_frame (s : State) : onlyText s (textDown s) := by
  rcases textDown_cases s with ⟨-, h⟩ | ⟨-, h⟩ <;> rw [h] <;> rfl

theorem textUp_frame (s : State) : onlyText s (textUp s) := by
  rcases textUp_cases s with ⟨-, h⟩ | ⟨-, h⟩ <;> rw [h] <;> rfl

theorem onlyText.trans {s t u : State} (h : onlyText s t) (h' : onlyText t u) : onlyText s u := by
  rw [onlyText] at *; rw [h', h]

theorem textRight_frame (s : State) : onlyText s (textRight s) := by
  rcases textRight_cases s with ⟨-, h⟩ | ⟨-, h⟩ <;> rw [h]
  · rfl
  exact onlyText.trans (t := s.setTxt ⟨s.tw.l, s.txt.y⟩) rfl (textDown_frame _)

theorem textLeft_frame (s : State) : onlyText s (textLeft s) := by
  rcases textLeft_cases s with ⟨-, h⟩ | ⟨-, h⟩ <;> rw [h]
  · rfl
  exact onlyText.trans (t := s.setTxt ⟨s.tw.r, s.txt.y⟩) rfl (textUp_frame _)

/-! ### Staying inside the text window (41_cursor.md R135, R158) -/

theorem inside_iff {w : TextWindow} {p : TextPos} :
    inside w p = true ↔ w.l ≤ p.x ∧ p.x ≤ w.r ∧ w.t ≤ p.y ∧ p.y ≤ w.b := by
  simp [inside, and_assoc]

theorem textDown_inside {s : State} (h : inside s.tw s.txt = true) : inside s.tw (textDown s).txt = true := by
  rw [inside_iff] at *
  rcases textDown_cases s with ⟨h1, h2⟩ | ⟨h1, h2⟩ <;> rw [h2] <;> simp <;> omega

theorem textUp_inside {s : State} (h : inside s.tw s.txt = true) : inside s.tw (textUp s).txt = true := by
  rw [inside_iff] at *
  rcases textUp_cases s with ⟨h1, h2⟩ | ⟨h1, h2⟩ <;> rw [h2] <;> simp <;> omega

theorem textRight_inside {s : State} (h : inside s.tw s.txt = true) : inside s.tw (textRight s).txt = true := by
  rcases textRight_cases s with ⟨h1, h2⟩ | ⟨h1, h2⟩ <;> rw [h2]
  · rw [inside_iff] at *; simp; omega
  · refine textDown_inside (s := s.setTxt ⟨s.tw.l, s.txt.y⟩) ?_
    rw [inside_iff] at *; simp; omega

theorem textLeft_inside {s : State} (h : inside s.tw s.txt = true) : inside s.tw (textLeft s).txt = true := by
  rcases textLeft_cases s with ⟨h1, h2⟩ | ⟨h1, h2⟩ <;> rw [h2]
  · rw [inside_iff] at *; simp; omega
  · refine textUp_inside (s := s.setTxt ⟨s.tw.r, s.txt.y⟩) ?_
    rw [inside_iff] at *; simp; omega

/-! ### Graphics primitives (41_cursor.md R145) -/

theorem gfxDown_frame (s : State) : gfxDown s = { s with g0 := (gfxDown s).g0 } := rfl

theorem gfxUp_frame (s : State) : gfxUp s = { s with g0 := (gfxUp s).g0 } := rfl

theorem gfxRight_frame (s : State) : gfxRight s = { s with g0 := (gfxRight s).g0 } := by
  unfold gfxRight; dsimp only; split <;> rfl

theorem gfxLeft_frame (s : State) : gfxLeft s = { s with g0 := (gfxLeft s).g0 } := by
  unfold gfxLeft; dsimp only; split <;> rfl

/-! ### Printing and the edit cursor -/

/-- Printing writes the active cursor and the trace only (41_cursor.md R150). -/
theorem paintAt_frame (c : Byte) (s : State) :
    (s.vdu5 = false ∧ onlyText s (paintAt c s)) ∨ (s.vdu5 = true ∧ onlyG0 s (paintAt c s)) := by
  unfold paintAt
  cases h : s.vdu5
  · exact .inl ⟨rfl, onlyText.trans (t := s.request (.smWriteChar c s.txt.x s.txt.y s.col.tfg s.col.tbg)) rfl
      (textRight_frame _)⟩
  · refine .inr ⟨rfl, ?_⟩
    have h2 := gfxRight_frame (s.request
      (.dpPaintGlyph c (intX s s.g0.x) (intY s s.g0.y) s.col.gfg s.col.gfgAct (gclip s)))
    simp only [if_true, onlyG0]
    rw [h2]; rfl

theorem editMove_frame (d : EditDir) (s : State) : editMove d s = { s with ed := (editMove d s).ed } := by
  cases d <;> simp only [editMove] <;> first | rfl | (split <;> rfl)

theorem enterEdit_cases (s : State) :
    (s.edit = true ∧ enterEdit s = s) ∨ (s.edit = false ∧ enterEdit s = { s with edit := true, ed := s.txt }) := by
  unfold enterEdit; cases s.edit <;> simp

theorem editDown_inside {s : State} (h : inside s.tw s.ed = true) : inside s.tw (editDown s).ed = true := by
  rw [inside_iff] at *
  unfold editDown
  by_cases h' : s.ed.y < s.tw.b <;> simp [h'] <;> omega

theorem editUp_inside {s : State} (h : inside s.tw s.ed = true) : inside s.tw (editUp s).ed = true := by
  rw [inside_iff] at *
  unfold editUp
  by_cases h' : s.tw.t < s.ed.y <;> simp [h'] <;> omega

theorem editMove_inside {d : EditDir} {s : State} (h : inside s.tw s.ed = true) :
    inside s.tw (editMove d s).ed = true := by
  have h' := inside_iff.1 h
  cases d with
  | down => exact editDown_inside h
  | up => exact editUp_inside h
  | left =>
    simp only [editMove]
    split
    · rw [inside_iff]; simp; omega
    · refine editUp_inside (s := s.setEd ⟨s.tw.r, s.ed.y⟩) ?_
      rw [inside_iff]; simp; omega
  | right =>
    simp only [editMove]
    split
    · rw [inside_iff]; simp; omega
    · refine editDown_inside (s := s.setEd ⟨s.tw.l, s.ed.y⟩) ?_
      rw [inside_iff]; simp; omega

/-! ### Painted cursors (41_cursor.md R160 to R163) -/

theorem toggleFlash_eq (s : State) : toggleFlash s =
    { s with fcVisible := !s.fcVisible, trace := s.trace ++ [.request (.smXorCell (flashRect s))] } := rfl

theorem toggleBlock_eq (s : State) : toggleBlock s =
    { s with bcVisible := !s.bcVisible, trace := s.trace ++ [.request (.smXorCell (blockRect s))] } := rfl

/-- After `CursorHide` both flags are clear and only they and the trace changed. -/
theorem cursorHide_eq (s : State) : cursorHide s =
    { s with fcVisible := false, bcVisible := false, trace := (cursorHide s).trace } := by
  unfold cursorHide
  cases h : s.fcVisible <;> cases h' : s.bcVisible <;> simp [toggleFlash_eq, toggleBlock_eq, h, h']
  all_goals (cases s; simp_all)

/-- Everything `CursorRestore` can do. -/
theorem cursorRestore_cases (vis : Bool) (s : State) :
    (s.reinit = true ∧ cursorRestore vis s = { s with reinit := false }) ∨
    (s.reinit = false ∧ cursorRestore vis s =
      { s with fcVisible := s.fcVisible ^^ (vis && s.cursorEnabled), bcVisible := s.bcVisible ^^ s.edit,
               trace := (cursorRestore vis s).trace }) := by
  unfold cursorRestore
  cases h : s.reinit
  · right
    refine ⟨rfl, ?_⟩
    cases h1 : (vis && s.cursorEnabled) <;> cases h2 : s.edit <;> simp [toggleFlash_eq, toggleBlock_eq, h2] <;>
      first | exact h | (cases s; simp_all)
  · left; simp

end Sys2Proof.Machine
end

