-- ==== Sys2Proof/Laws/Mode.lean ====
section
/-! SUPPORT. What the mode switch, the font select, the framer and the counters can do. -/

namespace Sys2Proof.Machine

/-! ### Collaborator answers -/

/-- Steps (a) to (c) touch the painted-cursor flags, the active font and the trace only (44_mode_ext.md R234). -/
theorem beginSwitch_frame (m : ModeId) (p : Option (List Byte)) (s : State) :
    beginSwitch m p s =
      { s.defaultFont with fcVisible := false, bcVisible := false, trace := (beginSwitch m p s).trace } := by
  unfold beginSwitch; dsimp only; split <;> rfl

/-- The metrics a mode switch reads are the default font's (log 23). -/
@[simp] theorem beginSwitch_font (m : ModeId) (p : Option (List Byte)) (s : State) :
    (beginSwitch m p s).collab.font = s.params.font := by
  unfold beginSwitch; dsimp only; split <;> rfl

/-- Reading the geometry changes at most what is kept of the collaborators. -/
theorem geometryAnswer_frame {m : ModeId} {p : Option (List Byte)} {s s' : State} {g : Geometry}
    (h : geometryAnswer m p s = some (g, s')) :
    s' = { s with collab := s'.collab } ∧ s'.collab.font = s.collab.font ∧
      s'.collab.fontParams = s.collab.fontParams := by
  unfold geometryAnswer at h
  split at h
  · split at h
    · simp only [Option.some.injEq, Prod.mk.injEq] at h; obtain ⟨-, rfl⟩ := h; exact ⟨rfl, rfl, rfl⟩
    · cases h
  · simp only [Option.some.injEq, State.customGeometry, Prod.mk.injEq] at h
    obtain ⟨-, rfl⟩ := h; exact ⟨rfl, rfl, rfl⟩
  · cases h

/-- Everything the mode switch can do when it answers a next state (44_mode_ext.md R234). -/
theorem modeSwitch_next {m : ModeId} {p : Option (List Byte)} {s t : State} (h : modeSwitch m p s = .next t) :
    ∃ g s1, geometryAnswer m p (beginSwitch m p s) = some (g, s1) ∧ geometryOk g = true ∧
      metricsOk s1.collab.font = true ∧ gridOk (loadScreen m g s1).scr = true ∧ t = finishSwitch (loadScreen m g s1) := by
  unfold modeSwitch at h
  split at h
  · cases h
  · rename_i g s1 hg
    refine ⟨g, s1, hg, ?_⟩
    dsimp only at h
    split at h
    · cases h
    · split at h
      · cases h
      · split at h
        · cases h
        · simp_all

/-- The mode switch never faults. -/
theorem modeSwitch_not_fault (m : ModeId) (p : Option (List Byte)) (s : State) : notFault (modeSwitch m p s) = true := by
  unfold modeSwitch
  split
  · rfl
  · dsimp only; repeat' split
    all_goals rfl

/-- The state the mode switch ends in, field by field (44_mode_ext.md R234, R236). -/
theorem finishSwitch_eq (s : State) : finishSwitch s =
    let d := defaultColours s.params s.scr.mode
    let w : TextWindow := { l := 0, b := textRows s.scr - 1, r := textCols s.scr - 1, t := 0 }
    { s with
      dt := textBindings
      vdu5 := false
      tw := w
      gw := { l := 0, b := 0, r := extWidth s.scr - 1, t := extHeight s.scr - 1 }
      org := ⟨0, 0⟩
      txt := ⟨0, 0⟩
      ed := ⟨0, 0⟩
      edit := false
      g0 := ⟨0, 0⟩
      g1 := ⟨0, 0⟩
      g2 := ⟨0, 0⟩
      col := { tfg := d.tfg &&& indexMask, tbg := d.tbg &&& indexMask, gfg := d.gfg &&& indexMask,
               gbg := d.gbg &&& indexMask, gfgAct := actReplace, gbgAct := actReplace }
      cursorEnabled := true
      sprSel := 0
      blinkCnt := 0
      reinit := true
      trace := s.trace ++ [.request .smResetColours,
        .request (.smClearArea (cellRect s.scr w) (d.tbg &&& indexMask) actReplace), .request .dpClearSprites] } := by
  simp only [finishSwitch, clearText, cursorDefaults, bindTo, colourDefaults, defaultWindows, State.request,
    State.emit, State.setTxt, textArea, List.append_assoc, List.cons_append, List.nil_append, Bool.false_eq_true,
    if_false]

/-- Everything `FONT.Select` can do in the collaborator (44_mode_ext.md R243): nothing where every byte is the sentinel. -/
theorem selectFont_cases (d : List Byte) (s : State) :
    ((∀ b ∈ d, b = ignoreByte) ∧ s.selectFont d = s) ∨
    ((¬ ∀ b ∈ d, b = ignoreByte) ∧ ∃ m rest,
      nextAnswer s.collab.fontAnswers (s.freeFont (applyFontParams s.collab.fontParams d)) = (m, rest) ∧
      s.selectFont d = { s with collab :=
        { s.collab with font := m, fontParams := applyFontParams s.collab.fontParams d, fontAnswers := rest,
                        free := s.collab.free + 1 } }) := by
  unfold State.selectFont
  by_cases h : ∀ b ∈ d, b = ignoreByte
  · exact .inl ⟨h, if_pos (by simpa using h)⟩
  · exact .inr ⟨h, _, _, rfl, if_neg (by simpa using h)⟩

/-- `FONT.Select` changes what is kept of the collaborators only. -/
theorem selectFont_frame (d : List Byte) (s : State) : s.selectFont d = { s with collab := (s.selectFont d).collab } := by
  unfold State.selectFont; split <;> rfl

/-- Everything font select can do when it answers a next state (44_mode_ext.md R243). -/
theorem fontSelect_next {d : List Byte} {s t : State} (h : fontSelect d s = .next t) :
    metricsOk ((s.request (.fontSelect d)).selectFont d).collab.font = true ∧
    gridOk (loadFont ((s.request (.fontSelect d)).selectFont d)).scr = true ∧
    t = reclampText (loadFont ((s.request (.fontSelect d)).selectFont d)) := by
  unfold fontSelect at h
  dsimp only at h
  split at h
  · cases h
  · split at h
    · cases h
    · simp_all

/-- What font select leaves alone (44_mode_ext.md R243). -/
theorem fontSelect_frame {d : List Byte} {s t : State} (h : fontSelect d s = .next t) :
    t = { s with scr := t.scr, tw := t.tw, txt := t.txt, ed := t.ed, collab := t.collab, trace := t.trace } ∧
    t.trace = s.trace ++ [.request (.fontSelect d), .request .fontMetrics] := by
  obtain ⟨-, -, rfl⟩ := fontSelect_next h
  generalize hu : (s.request (.fontSelect d)).selectFont d = u
  have hf := selectFont_frame d (s.request (.fontSelect d))
  rw [hu] at hf
  have ht : u.trace = s.trace ++ [.request (.fontSelect d)] := by rw [hf]; rfl
  refine ⟨?_, by simp [reclampText, loadFont, ht]⟩
  rw [hf]; rfl

theorem fontSelect_not_fault (d : List Byte) (s : State) : notFault (fontSelect d s) = true := by
  unfold fontSelect; dsimp only; repeat' split
  all_goals rfl

/-! ### The re-clamp (42_window_graphics.md R191) -/

theorem clamp_bounds {v lo hi : Nat} (h : lo ≤ hi) : lo ≤ clamp v lo hi ∧ clamp v lo hi ≤ hi := by
  unfold clamp; omega

theorem gridOk_iff {c : Screen} : gridOk c = true ↔ 0 < textCols c ∧ 0 < textRows c := by simp [gridOk]

theorem twValid_iff {c : Screen} {w : TextWindow} :
    twValid c w = true ↔ w.l ≤ w.r ∧ w.r < textCols c ∧ w.t ≤ w.b ∧ w.b < textRows c := by
  simp [twValid, and_assoc]

/-! ### Contracts (60_exceptions.md R281) -/

theorem metricsOk_iff {m : Metrics} : metricsOk m = true ↔ 0 < m.fw.toInt ∧ 0 < m.fh.toInt := by simp [metricsOk]
theorem toNat_pos_of_toInt_pos {w : Word} (h : 0 < w.toInt) : 0 < w.toNat := by
  rw [BitVec.toInt_eq_toNat_cond] at h; split at h <;> omega
theorem metrics_pos {m : Metrics} (h : metricsOk m = true) : 0 < m.fw.toNat ∧ 0 < m.fh.toNat := by
  rw [metricsOk_iff] at h; exact ⟨toNat_pos_of_toInt_pos h.1, toNat_pos_of_toInt_pos h.2⟩
/-- A grid has a cell exactly when the glyph fits the screen (10_state.md R27). -/
theorem gridOk_iff_fits {c : Screen} (h1 : 0 < c.fw) (h2 : 0 < c.fh) : gridOk c = true ↔ c.fw ≤ c.w ∧ c.fh ≤ c.h := by
  rw [gridOk_iff]; unfold textCols textRows
  rw [Nat.div_pos_iff, Nat.div_pos_iff]; omega

/-- The mode switch, given what the collaborators answer (44_mode_ext.md R234, 60_exceptions.md R281). -/
theorem modeSwitch_of_answer {m : ModeId} {p : Option (List Byte)} {s s1 : State} {g : Geometry}
    (h : geometryAnswer m p (beginSwitch m p s) = some (g, s1)) :
    modeSwitch m p s =
      if !geometryOk g then .refused .badGeometry
      else if !metricsOk s1.collab.font then .refused .badMetrics
      else if !gridOk (loadScreen m g s1).scr then .refused .glyphTooLarge
      else .next (finishSwitch (loadScreen m g s1)) := by
  unfold modeSwitch; rw [h]

/-! ### Counters (60_exceptions.md R268, R269) -/

/-- Everything the blink can do. -/
theorem blink_cases (s : State) :
    (s.blinkCnt + 1 < blinkThreshold s ∧ blink s = { s with blinkCnt := s.blinkCnt + 1 }) ∨
    (blinkThreshold s ≤ s.blinkCnt + 1 ∧ s.cursorEnabled = true ∧ blink s = toggleFlash { s with blinkCnt := 0 }) ∨
    (blinkThreshold s ≤ s.blinkCnt + 1 ∧ s.cursorEnabled = false ∧ blink s = { s with blinkCnt := 0 }) := by
  unfold blink
  by_cases h : blinkThreshold s ≤ s.blinkCnt + 1
  · cases h' : s.cursorEnabled <;> simp [h]
  · simp [h]; omega

/-- Everything the flash counter can do. -/
theorem flash_cases (s : State) :
    (s.flashCnt + 1 < s.params.flashPeriod ∧ flash s = { s with flashCnt := s.flashCnt + 1 }) ∨
    (s.params.flashPeriod ≤ s.flashCnt + 1 ∧ flash s = { s with flashCnt := 0 }.request .smFlashSwap) := by
  unfold flash
  by_cases h : s.params.flashPeriod ≤ s.flashCnt + 1
  · simp [h]
  · simp [h]; omega

/-! ### Dispatch entries (40_framer_dispatch.md R108) -/

theorem dispatchHandler_text (op : Byte) : dispatchHandler textBindings op = textHandler op := by
  unfold dispatchHandler textHandler; split <;> simp_all [textBindings]

theorem dispatchHandler_graphics (op : Byte) : dispatchHandler graphicsBindings op = graphicsHandler op := by
  unfold dispatchHandler graphicsHandler; split <;> simp_all [graphicsBindings]

/-- Where the nine entries agree with `vdu5`, the table gives the handler of the binding (10_state.md R25). -/
theorem dispatchHandler_of_bindingOk {s : State} (h : bindingOk s) (op : Byte) :
    dispatchHandler s.dt op = handlerFor s.vdu5 op := by
  rw [bindingOk] at h
  rw [h]
  cases s.vdu5
  · exact dispatchHandler_text op
  · exact dispatchHandler_graphics op

theorem arglen_le (op : Byte) : arglen op ≤ 9 := by
  unfold arglen; split <;> omega

end Sys2Proof.Machine
end

