-- ==== Sys2Proof/Laws/Colour.lean ====
section
/-! SUPPORT. The colour byte's fields in arithmetic (30_encoding.md R85), and 32-bit sums up to a multiple of 2^32. -/

namespace Sys2Proof.Machine

/-- The index is written, the tint kept (43_colour.md R211). -/
theorem withIndex_bits : ∀ (reg c : Byte),
    (withIndex reg c).toNat % 64 = c.toNat % 64 ∧ (withIndex reg c).toNat / 64 = reg.toNat / 64 := by
  intro reg c
  have h1 : (withIndex reg c).toNat % 64 = c.toNat % 64 := by
    have e : ∀ x : Byte, x.toNat % 64 = (x &&& 63#8).toNat := by decide
    rw [e, e]; congr 1; unfold withIndex indexMask tintMask
    ext i hi; simp only [BitVec.getElem_and, BitVec.getElem_or]; interval_cases i <;> simp
  have h2 : (withIndex reg c).toNat / 64 = reg.toNat / 64 := by
    have e : ∀ x : Byte, x.toNat / 64 = (x &&& 192#8).toNat / 64 := by decide
    rw [e, e reg]; congr 2; unfold withIndex indexMask tintMask
    ext i hi; simp only [BitVec.getElem_and, BitVec.getElem_or]; interval_cases i <;> simp
  exact ⟨h1, h2⟩

/-- The tint is written, the index kept (43_colour.md R217). -/
theorem withTint_bits : ∀ (reg c : Byte),
    (withTint reg c).toNat / 64 = c.toNat / 64 ∧ (withTint reg c).toNat % 64 = reg.toNat % 64 := by
  intro reg c
  have : withTint reg c = withIndex c reg := by unfold withTint withIndex; exact BitVec.or_comm _ _
  rw [this]; exact ⟨(withIndex_bits c reg).2, (withIndex_bits c reg).1⟩

theorem selectsBackground_eq : ∀ c : Byte, selectsBackground c = decide (128 ≤ c.toNat) := by decide

theorem and_indexMask : ∀ c : Byte, (c &&& indexMask).toNat = c.toNat % 64 := by decide


theorem bmod_eq_add_mul (x : Int) : ∃ k : Int, x.bmod (2^32) = x + k * 2^32 := ⟨-((x + 2^31) / 2^32), by
  have h := Int.bmod_add_bdiv x (2^32)
  have : Int.bdiv x (2^32) = (x + 2^31)/2^32 := by
    have h1 := Int.le_bmod (x := x) (m := 2^32) (by norm_num); have h2 := Int.bmod_lt (x := x) (m := 2^32) (by norm_num)
    omega
  omega⟩

/-- A 32-bit sum is the exact sum up to a multiple of 2^32 (42_window_graphics.md R183). -/
theorem toInt_add_word (a b : Word) : ∃ k : Int, (a + b).toInt = a.toInt + b.toInt + k * 2^32 := by
  rw [BitVec.toInt_add]; exact bmod_eq_add_mul _

/-- A 32-bit difference is the exact one up to a multiple of 2^32 (42_window_graphics.md R183). -/
theorem toInt_sub_word (a b : Word) : ∃ k : Int, (a - b).toInt = a.toInt - b.toInt + k * 2^32 := by
  rw [BitVec.toInt_sub]; exact bmod_eq_add_mul _

theorem toInt_range_word (a : Word) : -2^31 ≤ a.toInt ∧ a.toInt < 2^31 := by
  have h1 := BitVec.le_toInt a; have h2 := BitVec.toInt_lt (x := a); simp at *; omega


end Sys2Proof.Machine
end

