-- ==== Sys2Proof/Laws/Instr.lean ====
section
/-! SUPPORT. The opcode, the arguments and the well-formedness of every constructor, one lemma each, true by rfl, so that
no proof takes the big matches apart. -/

namespace Sys2Proof

@[simp] theorem opcode_nul : (Instr.nul).opcode = 0#8 := rfl
@[simp] theorem args_nul : (Instr.nul).args = [] := rfl
@[simp] theorem wfUnder_nul (v : Bool) : (Instr.nul).wfUnder v = true := rfl

@[simp] theorem opcode_vdu1 (a : Byte) : (Instr.vdu1 a).opcode = 1#8 := rfl
@[simp] theorem args_vdu1 (a : Byte) : (Instr.vdu1 a).args = [a] := rfl
@[simp] theorem wfUnder_vdu1 (v : Bool) (a : Byte) : (Instr.vdu1 a).wfUnder v = true := rfl

@[simp] theorem opcode_vdu2 : (Instr.vdu2).opcode = 2#8 := rfl
@[simp] theorem args_vdu2 : (Instr.vdu2).args = [] := rfl
@[simp] theorem wfUnder_vdu2 (v : Bool) : (Instr.vdu2).wfUnder v = true := rfl

@[simp] theorem opcode_vdu3 : (Instr.vdu3).opcode = 3#8 := rfl
@[simp] theorem args_vdu3 : (Instr.vdu3).args = [] := rfl
@[simp] theorem wfUnder_vdu3 (v : Bool) : (Instr.vdu3).wfUnder v = true := rfl

@[simp] theorem opcode_vdu4 : (Instr.vdu4).opcode = 4#8 := rfl
@[simp] theorem args_vdu4 : (Instr.vdu4).args = [] := rfl
@[simp] theorem wfUnder_vdu4 (v : Bool) : (Instr.vdu4).wfUnder v = true := rfl

@[simp] theorem opcode_vdu5 : (Instr.vdu5).opcode = 5#8 := rfl
@[simp] theorem args_vdu5 : (Instr.vdu5).args = [] := rfl
@[simp] theorem wfUnder_vdu5 (v : Bool) : (Instr.vdu5).wfUnder v = true := rfl

@[simp] theorem opcode_vdu6 : (Instr.vdu6).opcode = 6#8 := rfl
@[simp] theorem args_vdu6 : (Instr.vdu6).args = [] := rfl
@[simp] theorem wfUnder_vdu6 (v : Bool) : (Instr.vdu6).wfUnder v = true := rfl

@[simp] theorem opcode_vdu7 : (Instr.vdu7).opcode = 7#8 := rfl
@[simp] theorem args_vdu7 : (Instr.vdu7).args = [] := rfl
@[simp] theorem wfUnder_vdu7 (v : Bool) : (Instr.vdu7).wfUnder v = true := rfl

@[simp] theorem opcode_left : (Instr.left).opcode = 8#8 := rfl
@[simp] theorem args_left : (Instr.left).args = [] := rfl
@[simp] theorem wfUnder_left (v : Bool) : (Instr.left).wfUnder v = (!v) := rfl

@[simp] theorem opcode_gleft : (Instr.gleft).opcode = 8#8 := rfl
@[simp] theorem args_gleft : (Instr.gleft).args = [] := rfl
@[simp] theorem wfUnder_gleft (v : Bool) : (Instr.gleft).wfUnder v = v := rfl

@[simp] theorem opcode_right : (Instr.right).opcode = 9#8 := rfl
@[simp] theorem args_right : (Instr.right).args = [] := rfl
@[simp] theorem wfUnder_right (v : Bool) : (Instr.right).wfUnder v = (!v) := rfl

@[simp] theorem opcode_gright : (Instr.gright).opcode = 9#8 := rfl
@[simp] theorem args_gright : (Instr.gright).args = [] := rfl
@[simp] theorem wfUnder_gright (v : Bool) : (Instr.gright).wfUnder v = v := rfl

@[simp] theorem opcode_down : (Instr.down).opcode = 10#8 := rfl
@[simp] theorem args_down : (Instr.down).args = [] := rfl
@[simp] theorem wfUnder_down (v : Bool) : (Instr.down).wfUnder v = (!v) := rfl

@[simp] theorem opcode_gdown : (Instr.gdown).opcode = 10#8 := rfl
@[simp] theorem args_gdown : (Instr.gdown).args = [] := rfl
@[simp] theorem wfUnder_gdown (v : Bool) : (Instr.gdown).wfUnder v = v := rfl

@[simp] theorem opcode_up : (Instr.up).opcode = 11#8 := rfl
@[simp] theorem args_up : (Instr.up).args = [] := rfl
@[simp] theorem wfUnder_up (v : Bool) : (Instr.up).wfUnder v = (!v) := rfl

@[simp] theorem opcode_gup : (Instr.gup).opcode = 11#8 := rfl
@[simp] theorem args_gup : (Instr.gup).args = [] := rfl
@[simp] theorem wfUnder_gup (v : Bool) : (Instr.gup).wfUnder v = v := rfl

@[simp] theorem opcode_cls : (Instr.cls).opcode = 12#8 := rfl
@[simp] theorem args_cls : (Instr.cls).args = [] := rfl
@[simp] theorem wfUnder_cls (v : Bool) : (Instr.cls).wfUnder v = (!v) := rfl

@[simp] theorem opcode_gcls : (Instr.gcls).opcode = 12#8 := rfl
@[simp] theorem args_gcls : (Instr.gcls).args = [] := rfl
@[simp] theorem wfUnder_gcls (v : Bool) : (Instr.gcls).wfUnder v = v := rfl

@[simp] theorem opcode_cr : (Instr.cr).opcode = 13#8 := rfl
@[simp] theorem args_cr : (Instr.cr).args = [] := rfl
@[simp] theorem wfUnder_cr (v : Bool) : (Instr.cr).wfUnder v = (!v) := rfl

@[simp] theorem opcode_gcr : (Instr.gcr).opcode = 13#8 := rfl
@[simp] theorem args_gcr : (Instr.gcr).args = [] := rfl
@[simp] theorem wfUnder_gcr (v : Bool) : (Instr.gcr).wfUnder v = v := rfl

@[simp] theorem opcode_vdu14 : (Instr.vdu14).opcode = 14#8 := rfl
@[simp] theorem args_vdu14 : (Instr.vdu14).args = [] := rfl
@[simp] theorem wfUnder_vdu14 (v : Bool) : (Instr.vdu14).wfUnder v = true := rfl

@[simp] theorem opcode_vdu15 : (Instr.vdu15).opcode = 15#8 := rfl
@[simp] theorem args_vdu15 : (Instr.vdu15).args = [] := rfl
@[simp] theorem wfUnder_vdu15 (v : Bool) : (Instr.vdu15).wfUnder v = true := rfl

@[simp] theorem opcode_clg : (Instr.clg).opcode = 16#8 := rfl
@[simp] theorem args_clg : (Instr.clg).args = [] := rfl
@[simp] theorem wfUnder_clg (v : Bool) : (Instr.clg).wfUnder v = true := rfl

@[simp] theorem opcode_colour (c : Byte) : (Instr.colour c).opcode = 17#8 := rfl
@[simp] theorem args_colour (c : Byte) : (Instr.colour c).args = [c] := rfl
@[simp] theorem wfUnder_colour (v : Bool) (c : Byte) : (Instr.colour c).wfUnder v = true := rfl

@[simp] theorem opcode_gcol (k c : Byte) : (Instr.gcol k c).opcode = 18#8 := rfl
@[simp] theorem args_gcol (k c : Byte) : (Instr.gcol k c).args = [k, c] := rfl
@[simp] theorem wfUnder_gcol (v : Bool) (k c : Byte) : (Instr.gcol k c).wfUnder v = true := rfl

@[simp] theorem opcode_palette (l p r g b : Byte) : (Instr.palette l p r g b).opcode = 19#8 := rfl
@[simp] theorem args_palette (l p r g b : Byte) : (Instr.palette l p r g b).args = [l, p, r, g, b] := rfl
@[simp] theorem wfUnder_palette (v : Bool) (l p r g b : Byte) : (Instr.palette l p r g b).wfUnder v = true := rfl

@[simp] theorem opcode_defcol : (Instr.defcol).opcode = 20#8 := rfl
@[simp] theorem args_defcol : (Instr.defcol).args = [] := rfl
@[simp] theorem wfUnder_defcol (v : Bool) : (Instr.defcol).wfUnder v = true := rfl

@[simp] theorem opcode_vdu21 : (Instr.vdu21).opcode = 21#8 := rfl
@[simp] theorem args_vdu21 : (Instr.vdu21).args = [] := rfl
@[simp] theorem wfUnder_vdu21 (v : Bool) : (Instr.vdu21).wfUnder v = true := rfl

@[simp] theorem opcode_mode (n : Byte) : (Instr.mode n).opcode = 22#8 := rfl
@[simp] theorem args_mode (n : Byte) : (Instr.mode n).args = [n] := rfl
@[simp] theorem wfUnder_mode (v : Bool) (n : Byte) : (Instr.mode n).wfUnder v = true := rfl

@[simp] theorem opcode_vdu23 (n d0 d1 d2 d3 d4 d5 d6 d7 : Byte) : (Instr.vdu23 n d0 d1 d2 d3 d4 d5 d6 d7).opcode = 23#8 := rfl
@[simp] theorem args_vdu23 (n d0 d1 d2 d3 d4 d5 d6 d7 : Byte) : (Instr.vdu23 n d0 d1 d2 d3 d4 d5 d6 d7).args = [n, d0, d1, d2, d3, d4, d5, d6, d7] := rfl
@[simp] theorem wfUnder_vdu23 (v : Bool) (n d0 d1 d2 d3 d4 d5 d6 d7 : Byte) : (Instr.vdu23 n d0 d1 d2 d3 d4 d5 d6 d7).wfUnder v = true := rfl

@[simp] theorem opcode_gwindow (l b r t : Half) : (Instr.gwindow l b r t).opcode = 24#8 := rfl
@[simp] theorem args_gwindow (l b r t : Half) : (Instr.gwindow l b r t).args = halfBytes l ++ halfBytes b ++ halfBytes r ++ halfBytes t := rfl
@[simp] theorem wfUnder_gwindow (v : Bool) (l b r t : Half) : (Instr.gwindow l b r t).wfUnder v = true := rfl

@[simp] theorem opcode_plot (k : Byte) (x : Half) (y : Half) : (Instr.plot k x y).opcode = 25#8 := rfl
@[simp] theorem args_plot (k : Byte) (x : Half) (y : Half) : (Instr.plot k x y).args = [k] ++ halfBytes x ++ halfBytes y := rfl
@[simp] theorem wfUnder_plot (v : Bool) (k : Byte) (x : Half) (y : Half) : (Instr.plot k x y).wfUnder v = true := rfl

@[simp] theorem opcode_defwin : (Instr.defwin).opcode = 26#8 := rfl
@[simp] theorem args_defwin : (Instr.defwin).args = [] := rfl
@[simp] theorem wfUnder_defwin (v : Bool) : (Instr.defwin).wfUnder v = true := rfl

@[simp] theorem opcode_esc (e : Byte) : (Instr.esc e).opcode = 27#8 := rfl
@[simp] theorem args_esc (e : Byte) : (Instr.esc e).args = [e] := rfl
@[simp] theorem wfUnder_esc (v : Bool) (e : Byte) : (Instr.esc e).wfUnder v = true := rfl

@[simp] theorem opcode_twindow (l b r t : Byte) : (Instr.twindow l b r t).opcode = 28#8 := rfl
@[simp] theorem args_twindow (l b r t : Byte) : (Instr.twindow l b r t).args = [l, b, r, t] := rfl
@[simp] theorem wfUnder_twindow (v : Bool) (l b r t : Byte) : (Instr.twindow l b r t).wfUnder v = true := rfl

@[simp] theorem opcode_origin (x y : Half) : (Instr.origin x y).opcode = 29#8 := rfl
@[simp] theorem args_origin (x y : Half) : (Instr.origin x y).args = halfBytes x ++ halfBytes y := rfl
@[simp] theorem wfUnder_origin (v : Bool) (x y : Half) : (Instr.origin x y).wfUnder v = true := rfl

@[simp] theorem opcode_home : (Instr.home).opcode = 30#8 := rfl
@[simp] theorem args_home : (Instr.home).args = [] := rfl
@[simp] theorem wfUnder_home (v : Bool) : (Instr.home).wfUnder v = (!v) := rfl

@[simp] theorem opcode_ghome : (Instr.ghome).opcode = 30#8 := rfl
@[simp] theorem args_ghome : (Instr.ghome).args = [] := rfl
@[simp] theorem wfUnder_ghome (v : Bool) : (Instr.ghome).wfUnder v = v := rfl

@[simp] theorem opcode_tab (x y : Byte) : (Instr.tab x y).opcode = 31#8 := rfl
@[simp] theorem args_tab (x y : Byte) : (Instr.tab x y).args = [x, y] := rfl
@[simp] theorem wfUnder_tab (v : Bool) (x y : Byte) : (Instr.tab x y).wfUnder v = (!v) := rfl

@[simp] theorem opcode_gtab (x y : Byte) : (Instr.gtab x y).opcode = 31#8 := rfl
@[simp] theorem args_gtab (x y : Byte) : (Instr.gtab x y).args = [x, y] := rfl
@[simp] theorem wfUnder_gtab (v : Bool) (x y : Byte) : (Instr.gtab x y).wfUnder v = v := rfl

@[simp] theorem opcode_del : (Instr.del).opcode = 127#8 := rfl
@[simp] theorem args_del : (Instr.del).args = [] := rfl
@[simp] theorem wfUnder_del (v : Bool) : (Instr.del).wfUnder v = (!v) := rfl

@[simp] theorem opcode_gdel : (Instr.gdel).opcode = 127#8 := rfl
@[simp] theorem args_gdel : (Instr.gdel).args = [] := rfl
@[simp] theorem wfUnder_gdel (v : Bool) : (Instr.gdel).wfUnder v = v := rfl

@[simp] theorem opcode_print (c : Byte) : (Instr.print c).opcode = c := rfl
@[simp] theorem args_print (c : Byte) : (Instr.print c).args = [] := rfl
@[simp] theorem wfUnder_print (v : Bool) (c : Byte) : (Instr.print c).wfUnder v = printable c := Bool.and_true _

end Sys2Proof
end

