-- ==== Sys2Proof/Laws/Decode.lean ====
section
/-! SUPPORT. The decoder's small lemmas: 16-bit operands taken apart and put together (30_encoding.md R84), argument counts
and handlers of opcodes. -/

namespace Sys2Proof

@[simp] theorem joinBytes_low_high (x : Half) : joinBytes (lowByte x) (highByte x) = x := by
  apply BitVec.eq_of_toNat_eq
  have := x.isLt
  simp only [joinBytes, lowByte, highByte, BitVec.toNat_ofNat]
  omega

@[simp] theorem lowByte_joinBytes (lo hi : Byte) : lowByte (joinBytes lo hi) = lo := by
  apply BitVec.eq_of_toNat_eq
  have := lo.isLt; have := hi.isLt
  simp only [joinBytes, lowByte, BitVec.toNat_ofNat]
  omega

@[simp] theorem highByte_joinBytes (lo hi : Byte) : highByte (joinBytes lo hi) = hi := by
  apply BitVec.eq_of_toNat_eq
  have := lo.isLt; have := hi.isLt
  simp only [joinBytes, highByte, BitVec.toNat_ofNat]
  omega

/-- A printable opcode's handler is PRINT under both bindings, and it takes no argument (30_encoding.md R82, R89). -/
theorem handler_of_printable : ∀ (v : Bool) (c : Byte), printable c = true → handlerFor v c = .print ∧ arglen c = 0 := by
  decide

/-! ### The table, opcode by opcode (30_encoding.md R82; 40_framer_dispatch.md R105, R108) -/

@[simp] theorem arglen_0 : arglen 0#8 = 0 := rfl
@[simp] theorem arglen_1 : arglen 1#8 = 1 := rfl
@[simp] theorem arglen_2 : arglen 2#8 = 0 := rfl
@[simp] theorem arglen_3 : arglen 3#8 = 0 := rfl
@[simp] theorem arglen_4 : arglen 4#8 = 0 := rfl
@[simp] theorem arglen_5 : arglen 5#8 = 0 := rfl
@[simp] theorem arglen_6 : arglen 6#8 = 0 := rfl
@[simp] theorem arglen_7 : arglen 7#8 = 0 := rfl
@[simp] theorem arglen_8 : arglen 8#8 = 0 := rfl
@[simp] theorem arglen_9 : arglen 9#8 = 0 := rfl
@[simp] theorem arglen_10 : arglen 10#8 = 0 := rfl
@[simp] theorem arglen_11 : arglen 11#8 = 0 := rfl
@[simp] theorem arglen_12 : arglen 12#8 = 0 := rfl
@[simp] theorem arglen_13 : arglen 13#8 = 0 := rfl
@[simp] theorem arglen_14 : arglen 14#8 = 0 := rfl
@[simp] theorem arglen_15 : arglen 15#8 = 0 := rfl
@[simp] theorem arglen_16 : arglen 16#8 = 0 := rfl
@[simp] theorem arglen_17 : arglen 17#8 = 1 := rfl
@[simp] theorem arglen_18 : arglen 18#8 = 2 := rfl
@[simp] theorem arglen_19 : arglen 19#8 = 5 := rfl
@[simp] theorem arglen_20 : arglen 20#8 = 0 := rfl
@[simp] theorem arglen_21 : arglen 21#8 = 0 := rfl
@[simp] theorem arglen_22 : arglen 22#8 = 1 := rfl
@[simp] theorem arglen_23 : arglen 23#8 = 9 := rfl
@[simp] theorem arglen_24 : arglen 24#8 = 8 := rfl
@[simp] theorem arglen_25 : arglen 25#8 = 5 := rfl
@[simp] theorem arglen_26 : arglen 26#8 = 0 := rfl
@[simp] theorem arglen_27 : arglen 27#8 = 1 := rfl
@[simp] theorem arglen_28 : arglen 28#8 = 4 := rfl
@[simp] theorem arglen_29 : arglen 29#8 = 4 := rfl
@[simp] theorem arglen_30 : arglen 30#8 = 0 := rfl
@[simp] theorem arglen_31 : arglen 31#8 = 2 := rfl
@[simp] theorem arglen_127 : arglen 127#8 = 0 := rfl

@[simp] theorem handlerFor_0 (v : Bool) : handlerFor v 0#8 = .nop := by cases v <;> rfl
@[simp] theorem handlerFor_1 (v : Bool) : handlerFor v 1#8 = .nop := by cases v <;> rfl
@[simp] theorem handlerFor_2 (v : Bool) : handlerFor v 2#8 = .nop := by cases v <;> rfl
@[simp] theorem handlerFor_3 (v : Bool) : handlerFor v 3#8 = .nop := by cases v <;> rfl
@[simp] theorem handlerFor_4 (v : Bool) : handlerFor v 4#8 = .vdu4 := by cases v <;> rfl
@[simp] theorem handlerFor_5 (v : Bool) : handlerFor v 5#8 = .vdu5 := by cases v <;> rfl
@[simp] theorem handlerFor_6 (v : Bool) : handlerFor v 6#8 = .nop := by cases v <;> rfl
@[simp] theorem handlerFor_7 (v : Bool) : handlerFor v 7#8 = .nop := by cases v <;> rfl
@[simp] theorem handlerFor_text_8 : handlerFor false 8#8 = .tleft := rfl
@[simp] theorem handlerFor_graphics_8 : handlerFor true 8#8 = .gleft := rfl
@[simp] theorem handlerFor_text_9 : handlerFor false 9#8 = .tright := rfl
@[simp] theorem handlerFor_graphics_9 : handlerFor true 9#8 = .gright := rfl
@[simp] theorem handlerFor_text_10 : handlerFor false 10#8 = .tdown := rfl
@[simp] theorem handlerFor_graphics_10 : handlerFor true 10#8 = .gdown := rfl
@[simp] theorem handlerFor_text_11 : handlerFor false 11#8 = .tup := rfl
@[simp] theorem handlerFor_graphics_11 : handlerFor true 11#8 = .gup := rfl
@[simp] theorem handlerFor_text_12 : handlerFor false 12#8 = .cls := rfl
@[simp] theorem handlerFor_graphics_12 : handlerFor true 12#8 = .gcls := rfl
@[simp] theorem handlerFor_text_13 : handlerFor false 13#8 = .tcr := rfl
@[simp] theorem handlerFor_graphics_13 : handlerFor true 13#8 = .gcr := rfl
@[simp] theorem handlerFor_14 (v : Bool) : handlerFor v 14#8 = .nop := by cases v <;> rfl
@[simp] theorem handlerFor_15 (v : Bool) : handlerFor v 15#8 = .nop := by cases v <;> rfl
@[simp] theorem handlerFor_16 (v : Bool) : handlerFor v 16#8 = .clg := by cases v <;> rfl
@[simp] theorem handlerFor_17 (v : Bool) : handlerFor v 17#8 = .colour := by cases v <;> rfl
@[simp] theorem handlerFor_18 (v : Bool) : handlerFor v 18#8 = .gcol := by cases v <;> rfl
@[simp] theorem handlerFor_19 (v : Bool) : handlerFor v 19#8 = .palette := by cases v <;> rfl
@[simp] theorem handlerFor_20 (v : Bool) : handlerFor v 20#8 = .defcol := by cases v <;> rfl
@[simp] theorem handlerFor_21 (v : Bool) : handlerFor v 21#8 = .nop := by cases v <;> rfl
@[simp] theorem handlerFor_22 (v : Bool) : handlerFor v 22#8 = .mode := by cases v <;> rfl
@[simp] theorem handlerFor_23 (v : Bool) : handlerFor v 23#8 = .vdu23 := by cases v <;> rfl
@[simp] theorem handlerFor_24 (v : Bool) : handlerFor v 24#8 = .gwindow := by cases v <;> rfl
@[simp] theorem handlerFor_25 (v : Bool) : handlerFor v 25#8 = .plot := by cases v <;> rfl
@[simp] theorem handlerFor_26 (v : Bool) : handlerFor v 26#8 = .defwin := by cases v <;> rfl
@[simp] theorem handlerFor_27 (v : Bool) : handlerFor v 27#8 = .esc := by cases v <;> rfl
@[simp] theorem handlerFor_28 (v : Bool) : handlerFor v 28#8 = .twindow := by cases v <;> rfl
@[simp] theorem handlerFor_29 (v : Bool) : handlerFor v 29#8 = .origin := by cases v <;> rfl
@[simp] theorem handlerFor_text_30 : handlerFor false 30#8 = .thome := rfl
@[simp] theorem handlerFor_graphics_30 : handlerFor true 30#8 = .ghome := rfl
@[simp] theorem handlerFor_text_31 : handlerFor false 31#8 = .ttab := rfl
@[simp] theorem handlerFor_graphics_31 : handlerFor true 31#8 = .gtab := rfl
@[simp] theorem handlerFor_text_127 : handlerFor false 127#8 = .tdel := rfl
@[simp] theorem handlerFor_graphics_127 : handlerFor true 127#8 = .gdel := rfl

/-! ### Decoding an opcode with its arguments -/

theorem decode_of_args (v : Bool) (op : Byte) (as rest : List Byte) (h : as.length = arglen op) :
    decode v (op :: as ++ rest) = .ok (decodeHandler (handlerFor v op) (op :: as)) rest := by
  simp [decode, ← h]

/-! ### Operands out of the framed bytes -/

@[simp] theorem argByte_zero (b : Byte) (bs : List Byte) : argByte (b :: bs) 0 = b := rfl

@[simp] theorem argByte_succ (b : Byte) (bs : List Byte) (n : Nat) : argByte (b :: bs) (n + 1) = argByte bs n := rfl

@[simp] theorem argHalf_zero (lo hi : Byte) (bs : List Byte) : argHalf (lo :: hi :: bs) 0 = joinBytes lo hi := rfl

@[simp] theorem argHalf_succ (b : Byte) (bs : List Byte) (n : Nat) : argHalf (b :: bs) (n + 1) = argHalf bs n := rfl

@[simp] theorem nopInstr_0 (bs : List Byte) : nopInstr (0#8 :: bs) = .nul := rfl
@[simp] theorem nopInstr_1 (bs : List Byte) : nopInstr (1#8 :: bs) = .vdu1 (argByte bs 0) := rfl
@[simp] theorem nopInstr_2 (bs : List Byte) : nopInstr (2#8 :: bs) = .vdu2 := rfl
@[simp] theorem nopInstr_3 (bs : List Byte) : nopInstr (3#8 :: bs) = .vdu3 := rfl
@[simp] theorem nopInstr_6 (bs : List Byte) : nopInstr (6#8 :: bs) = .vdu6 := rfl
@[simp] theorem nopInstr_7 (bs : List Byte) : nopInstr (7#8 :: bs) = .vdu7 := rfl
@[simp] theorem nopInstr_14 (bs : List Byte) : nopInstr (14#8 :: bs) = .vdu14 := rfl
@[simp] theorem nopInstr_15 (bs : List Byte) : nopInstr (15#8 :: bs) = .vdu15 := rfl
@[simp] theorem nopInstr_21 (bs : List Byte) : nopInstr (21#8 :: bs) = .vdu21 := rfl

/-! ### Every opcode -/

/-- An opcode is a control code, 127, or printable (30_encoding.md R89). -/
theorem opcode_cases (op : Byte) :
    op ∈ ([0, 1, 2, 3, 4, 5, 6, 7, 8, 9, 10, 11, 12, 13, 14, 15, 16, 17, 18, 19, 20, 21, 22, 23, 24, 25, 26, 27, 28, 29,
      30, 31, 127] : List Byte) ∨ printable op = true := by
  revert op; decide

/-- The handler of an opcode reads only the opcode and its arguments. -/
theorem decodeHandler_append (v : Bool) (op : Byte) (as junk : List Byte) (h : as.length = arglen op) :
    decodeHandler (handlerFor v op) (op :: (as ++ junk)) = decodeHandler (handlerFor v op) (op :: as) := by
  rcases opcode_cases op with hm | hp
  · simp only [List.mem_cons, List.not_mem_nil, or_false] at hm
    rcases hm with rfl | rfl | rfl | rfl | rfl | rfl | rfl | rfl | rfl | rfl | rfl | rfl | rfl | rfl | rfl | rfl | rfl | rfl |
      rfl | rfl | rfl | rfl | rfl | rfl | rfl | rfl | rfl | rfl | rfl | rfl | rfl | rfl | rfl
    all_goals
      simp at h
      cases v
    all_goals
      first
      | (simp [decodeHandler]; done)
      | (match as, h with | [a], _ => simp [decodeHandler]; done)
      | (match as, h with | [a,b], _ => simp [decodeHandler]; done)
      | (match as, h with | [a,b,c,d], _ => simp [decodeHandler]; done)
      | (match as, h with | [a,b,c,d,e], _ => simp [decodeHandler]; done)
      | (match as, h with | [a,b,c,d,e,f,g,h], _ => simp [decodeHandler]; done)
      | (match as, h with | [a,b,c,d,e,f,g,h,i], _ => simp [decodeHandler])
  · obtain ⟨h1, h2⟩ := handler_of_printable v _ hp
    simp [h1, decodeHandler]

/-! ### Inverting `decode` -/

theorem decode_cons_ok {v : Bool} {op : Byte} {as : List Byte} {i : Instr} {rest : List Byte}
    (h : decode v (op :: as) = .ok i rest) :
    arglen op ≤ as.length ∧ rest = as.drop (arglen op) ∧ i = decodeHandler (handlerFor v op) (op :: as.take (arglen op)) := by
  simp only [decode] at h
  split at h
  · cases h
  · simp only [Decoded.ok.injEq] at h; exact ⟨by omega, h.2.symm, h.1.symm⟩

theorem decode_cons_truncated {v : Bool} {op o : Byte} {as : List Byte} {n g : Nat}
    (h : decode v (op :: as) = .truncated o n g) : as.length < arglen op ∧ o = op ∧ n = arglen op ∧ g = as.length := by
  simp only [decode] at h
  split at h
  · simp only [Decoded.truncated.injEq] at h; exact ⟨by omega, h.1.symm, h.2.1.symm, h.2.2.symm⟩
  · cases h

end Sys2Proof
end

