-- ==== Sys2Proof/Laws/Framer.lean ====
section
/-! SUPPORT. What a pop and the framer can do, in the terms of the decoder; and how a run takes one step. -/

namespace Sys2Proof.Machine

/-! ### Popping -/

/-- Popping one byte takes it from the front of the queue's list. -/
theorem unread_popped {s t : State} (hp : t.params = s.params) (hq : t.queue = popped s 1) :
    unread t = (unread s).tail := by
  apply List.ext_getElem
  · simp [unread, hq, popped]
  · intro i h1 h2
    simp [unread, State.slot, hq, popped, hp, List.getElem_tail]
    congr 2; omega

theorem queueOk_popped {s t : State} (h : queueOk s) (hc : 0 < s.queue.count) (hp : t.params = s.params)
    (hq : t.queue = popped s 1) : queueOk t := by
  obtain ⟨h1, h2, h3, h4, h5⟩ := h
  refine ⟨by rw [hq, hp]; exact h1, by rw [hq, hp]; exact h2, ?_, ?_, ?_⟩
  · rw [hq, hp]; exact Nat.mod_lt _ (by omega)
  · rw [hq, hp]; simp only [popped]; omega
  · rw [hq, hp]; simp only [popped]; rw [Nat.mod_add_mod, h5]; congr 1; omega

theorem popped_popped {s t : State} {n : Nat} (hp : t.params = s.params) (hq : t.queue = popped s 1) :
    popped t n = popped s (n + 1) := by
  simp only [popped, hq, hp]
  rw [Nat.mod_add_mod, Nat.sub_sub, Nat.add_assoc, Nat.add_comm 1 n]

/-! ### The consumer's steps (60_exceptions.md R265) -/

/-- With no turn scheduled and no held caller that can go on, a consumer inside a tick moves. -/
theorem step_consumer {s : State} (h1 : s.agents.sched = []) (h2 : ¬(s.vsync = true ∧ 0 < s.agents.waiters))
    (h3 : s.agents.consumer ≠ .idle) : step s = consumerStep s := by
  simp [step, nextTurn, h1, defaultTurn, h2, h3, takeTurn]

/-- The test of the drain loop finds a byte and pops it. -/
theorem consumerStep_pop {s : State} {b : Byte} (hq : queueOk s) (hd : s.agents.consumer = .draining)
    (h : (unread s).head? = some b) :
    consumerStep s = .next ({ s with queue := popped s 1 }.setConsumer (.framing b)) := by
  have hc : 0 < s.queue.count := by
    rw [← unread_length]; cases hu : unread s with
    | nil => rw [hu] at h; cases h
    | cons => simp
  have hr : s.queue.r < s.params.qcap := hq.2.2.1
  rw [unread_head hr hc] at h
  rcases pop_cases s with ⟨-, hp⟩ | ⟨hn, -⟩
  · rw [Option.some.inj h] at hp
    simp only [consumerStep, hd, drainStep, if_neg (Nat.ne_of_gt hc), hp]
  · exact absurd hr hn

/-- The test of the drain loop finds the queue empty. -/
theorem consumerStep_empty {s : State} (hd : s.agents.consumer = .draining) (hc : s.queue.count = 0) :
    consumerStep s = .next (s.setConsumer .counting) := by
  simp only [consumerStep, hd, drainStep, hc, if_true]

/-- The popped byte is framed. -/
theorem consumerStep_frame {s : State} {b : Byte} (hd : s.agents.consumer = .framing b) :
    consumerStep s = frame b (s.setConsumer .draining) := by simp only [consumerStep, hd]

/-- The counters are updated and the tick ends. -/
theorem consumerStep_count {s : State} (hd : s.agents.consumer = .counting) :
    consumerStep s = .next (endTick (flash (blink s))) := by simp only [consumerStep, hd]

/-! ### Framing -/

/-- A byte that completes a command runs it (40_framer_dispatch.md R102, R104). -/
theorem frame_last {s : State} {b : Byte} {i : Instr} (hb : bindingOk s) (hf : framerOk s)
    (h : decode s.vdu5 (framed s ++ [b]) = .ok i []) :
    frame b s = runCommand i { s with framer := framerAfter s (framed s ++ [b]) } := by
  obtain ⟨hl, hf⟩ := hf
  have hd := dispatchHandler_of_bindingOk hb
  unfold frame framed at *
  cases hs : s.framer.state
  · simp only [hs, List.nil_append] at h ⊢
    obtain ⟨h1, h2, h3⟩ := decode_cons_ok h
    have h0 : arglen b = 0 := by simpa using h1
    obtain ⟨a, t, hbuf⟩ : ∃ a t, s.framer.buf = a :: t := by
      cases hh : s.framer.buf with
      | nil => rw [hh] at hl; cases hl
      | cons a t => exact ⟨a, t, rfl⟩
    simp only [frameOpcode, h0, if_true, execute, hd, hbuf, List.set_cons_zero, framerAfter, argByte_zero, List.length_cons, List.length_nil, List.drop_succ_cons, List.drop_zero, List.cons_append, List.nil_append, Nat.zero_add]
    rw [h3]
    have := decodeHandler_append s.vdu5 b [] t (by simp [h0])
    simp only [List.nil_append] at this
    rw [this]; simp [h0]
  · obtain ⟨he, hc, hh⟩ := hf hs
    rw [hd] at hh
    simp only [hs] at h ⊢
    obtain ⟨a, t, hbuf⟩ : ∃ a t, s.framer.buf = a :: t := by
      cases hh : s.framer.buf with
      | nil => rw [hh] at hl; cases hl
      | cons a t => exact ⟨a, t, rfl⟩
    rw [hbuf] at h he hl hh ⊢
    simp only [List.take_succ_cons, List.cons_append] at h ⊢
    simp only [argByte_zero] at he hh
    obtain ⟨h1, h2, h3⟩ := decode_cons_ok h
    have := arglen_le a
    have hl' : t.length = 9 := by simpa [fbufLen] using hl
    simp only [List.length_append, List.length_take, List.length_cons, List.length_nil] at h1
    have hcnt : s.framer.cnt + 1 = arglen a := by omega
    have hlt : s.framer.cnt + 1 < fbufLen := by unfold fbufLen; omega
    simp only [frameArgument, if_true, hcnt, he, execute, hh, hbuf, framerAfter, argByte_zero]
    have hset : (a :: t).set (arglen a) b = a :: (t.take s.framer.cnt ++ [b] ++ t.drop (arglen a)) := by
      rw [← hcnt, List.set_cons_succ, List.set_eq_take_append_cons_drop, if_pos (by omega)]; simp
    rw [hset, h3]
    have htl : (t.take s.framer.cnt ++ [b]).length = arglen a := by simp; omega
    rw [decodeHandler_append _ _ _ _ htl, List.take_of_length_le (l := t.take s.framer.cnt ++ [b]) (by rw [htl])]
    simp
    have : min s.framer.cnt t.length = s.framer.cnt := by omega
    simp [this, hcnt]
    intro hx; omega

/-- A byte that leaves a command incomplete is kept (40_framer_dispatch.md R102). -/
theorem frame_more {s : State} {b op : Byte} {n g : Nat} (hb : bindingOk s) (hf : framerOk s)
    (h : decode s.vdu5 (framed s ++ [b]) = .truncated op n g) :
    frame b s = .next { s with framer :=
      { state := .bufferingArgs, exp := n, cnt := g, handler := some (handlerFor s.vdu5 op),
        buf := framed s ++ [b] ++ s.framer.buf.drop (g + 1) } } := by
  obtain ⟨hl, hf⟩ := hf
  have hd := dispatchHandler_of_bindingOk hb
  unfold frame framed at *
  cases hs : s.framer.state
  · simp only [hs, List.nil_append] at h ⊢
    obtain ⟨h1, rfl, rfl, rfl⟩ := decode_cons_truncated h
    have h0 : arglen op ≠ 0 := by simp at h1; omega
    obtain ⟨a, t, hbuf⟩ : ∃ a t, s.framer.buf = a :: t := by
      cases hh : s.framer.buf with
      | nil => rw [hh] at hl; cases hl
      | cons a t => exact ⟨a, t, rfl⟩
    simp [frameOpcode, h0, hd, hbuf]
  · obtain ⟨he, hc, hh⟩ := hf hs
    rw [hd] at hh
    simp only [hs] at h ⊢
    obtain ⟨a, t, hbuf⟩ : ∃ a t, s.framer.buf = a :: t := by
      cases hh : s.framer.buf with
      | nil => rw [hh] at hl; cases hl
      | cons a t => exact ⟨a, t, rfl⟩
    rw [hbuf] at h he hl hh ⊢
    simp only [List.take_succ_cons, List.cons_append] at h ⊢
    simp only [argByte_zero] at he hh
    obtain ⟨h1, rfl, rfl, rfl⟩ := decode_cons_truncated h
    have := arglen_le op
    have hl' : t.length = 9 := by simpa [fbufLen] using hl
    simp only [List.length_append, List.length_take, List.length_cons, List.length_nil] at h1
    have hlt : s.framer.cnt + 1 < fbufLen := by unfold fbufLen; omega
    have hne : ¬ s.framer.cnt + 1 = arglen op := by omega
    have hset : (op :: t).set (s.framer.cnt + 1) b = op :: (t.take s.framer.cnt ++ [b] ++ t.drop (s.framer.cnt + 1)) := by
      rw [List.set_cons_succ, List.set_eq_take_append_cons_drop, if_pos (by omega)]; simp
    simp only [frameArgument, hlt, if_true, he, hbuf, hne, if_false, hset, hh, hs]
    simp
    have : min s.framer.cnt t.length = s.framer.cnt := by omega
    omega


/-! ### Runs -/

theorem run_succ (n : Nat) (s : State) :
    Host.Core.run Sys2Proof.core (n + 1) s = andThen (step s) (fun t => Host.Core.run Sys2Proof.core n t) := by
  rcases h : step s with t | r | r
  all_goals
    have h' : Sys2Proof.core.step s = _ := h
    simp only [Host.Core.run, andThen]
    rw [h']
    try rfl


/-- Everything one command can do when it answers a next state. -/
theorem runCommand_next {i : Instr} {s t : State} :
    runCommand i s = .next t ↔
      ∃ u, exec i (cursorHide { s with reinit := false }) = .next u ∧ t = cursorRestore s.fcVisible u := by
  unfold runCommand
  rw [andThen_eq_next]
  constructor
  · rintro ⟨u, h1, h2⟩; cases h2; exact ⟨u, h1, rfl⟩
  · rintro ⟨u, h1, rfl⟩; exact ⟨u, h1, rfl⟩

end Sys2Proof.Machine
end

