-- ==== Sys2Proof/Laws/PerInstr.lean ====
section
/-! SUPPORT. Statements made per instruction: the length of an encoding is the table's (30_encoding.md R80, R82). -/

namespace Sys2Proof.Laws.EncodedLength

/-- A well-formed command's bytes are its opcode and as many arguments as the opcode takes. -/
def Statement (i : Instr) : Prop := i.wf = true → (encode i).length = 1 + arglen i.opcode

theorem nul : Statement .nul := fun _ => rfl

theorem vdu1 (a : Byte) : Statement (.vdu1 a) := fun _ => rfl

theorem vdu2 : Statement .vdu2 := fun _ => rfl

theorem vdu3 : Statement .vdu3 := fun _ => rfl

theorem vdu4 : Statement .vdu4 := fun _ => rfl

theorem vdu5 : Statement .vdu5 := fun _ => rfl

theorem vdu6 : Statement .vdu6 := fun _ => rfl

theorem vdu7 : Statement .vdu7 := fun _ => rfl

theorem left : Statement .left := fun _ => rfl

theorem gleft : Statement .gleft := fun _ => rfl

theorem right : Statement .right := fun _ => rfl

theorem gright : Statement .gright := fun _ => rfl

theorem down : Statement .down := fun _ => rfl

theorem gdown : Statement .gdown := fun _ => rfl

theorem up : Statement .up := fun _ => rfl

theorem gup : Statement .gup := fun _ => rfl

theorem cls : Statement .cls := fun _ => rfl

theorem gcls : Statement .gcls := fun _ => rfl

theorem cr : Statement .cr := fun _ => rfl

theorem gcr : Statement .gcr := fun _ => rfl

theorem vdu14 : Statement .vdu14 := fun _ => rfl

theorem vdu15 : Statement .vdu15 := fun _ => rfl

theorem clg : Statement .clg := fun _ => rfl

theorem colour (c : Byte) : Statement (.colour c) := fun _ => rfl

theorem gcol (k c : Byte) : Statement (.gcol k c) := fun _ => rfl

theorem palette (l p r g b : Byte) : Statement (.palette l p r g b) := fun _ => rfl

theorem defcol : Statement .defcol := fun _ => rfl

theorem vdu21 : Statement .vdu21 := fun _ => rfl

theorem mode (n : Byte) : Statement (.mode n) := fun _ => rfl

theorem vdu23 (n d0 d1 d2 d3 d4 d5 d6 d7 : Byte) : Statement (.vdu23 n d0 d1 d2 d3 d4 d5 d6 d7) := fun _ => rfl

theorem gwindow (l b r t : Half) : Statement (.gwindow l b r t) := fun _ => rfl

theorem plot (k : Byte) (x : Half) (y : Half) : Statement (.plot k x y) := fun _ => rfl

theorem defwin : Statement .defwin := fun _ => rfl

theorem esc (e : Byte) : Statement (.esc e) := fun _ => rfl

theorem twindow (l b r t : Byte) : Statement (.twindow l b r t) := fun _ => rfl

theorem origin (x y : Half) : Statement (.origin x y) := fun _ => rfl

theorem home : Statement .home := fun _ => rfl

theorem ghome : Statement .ghome := fun _ => rfl

theorem tab (x y : Byte) : Statement (.tab x y) := fun _ => rfl

theorem gtab (x y : Byte) : Statement (.gtab x y) := fun _ => rfl

theorem del : Statement .del := fun _ => rfl

theorem gdel : Statement .gdel := fun _ => rfl

theorem print (c : Byte) : Statement (.print c) := by
  intro h
  simp [encode, (handler_of_printable false c h).2]

end Sys2Proof.Laws.EncodedLength
end

