-- ==== Sys2Proof/Tests/Slice0.lean ====
section
/-! SUPPORT. The model's own tests. Decoding: words written out byte by byte from 30_encoding.md R81, R82, R89.
Well-formedness: an ill-formed term for each check. Single steps: the vectors of 95_test_vectors.md (T<n>) and the worked
examples of the rules, on platform P; each test names its source. -/

namespace Sys2Proof.Tests

open Sys2Proof Sys2Proof.Machine

/-! ### Helpers -/

/-- The next state, if there is one. -/
def after (r : Result) : Option State :=
  match r with
  | .next s => some s
  | _ => none

/-- One field of the next state. -/
def field {α : Type} (r : Result) (f : State → α) : Option α := (after r).map f

/-- The transactions a result added to those of `s`. -/
def issued (s : State) (r : Result) : Option (List Event) := field r fun t => t.trace.drop s.trace.length

/-- S0 of 95_test_vectors.md. -/
def s0 : State := State.reset

/-- S0 with a text window and a text cursor. -/
def textAt (l b r t x y : Nat) : State := { s0 with tw := ⟨l, b, r, t⟩, txt := ⟨x, y⟩ }

/-- S0 under VDU 5 with a graphics cursor. -/
def gfxAt (x y : Word) : State := { bindTo true s0 with g0 := ⟨x, y⟩ }

/-- The step that a placed command takes from reset. -/
def placed (bytes : List Byte) : Result := step (placeCommand s0 bytes)

/-! ### Well-formedness -/

/-- PRINT with a control code as its glyph is refused. -/
theorem test_wf_print_control : Instr.wf (.print 12) = false := by decide

/-- PRINT with 127 is refused (90_conflicts.md C3). -/
theorem test_wf_print_del : Instr.wf (.print 127) = false := by decide

theorem test_wf_print_letter : Instr.wf (.print 65) = true := by decide

/-- A text handler's command under VDU 5 is refused (30_encoding.md R92). -/
theorem test_wf_left_vdu5 : Instr.wfUnder true .left = false := by decide

/-- A graphics handler's command under VDU 4 is refused (30_encoding.md R92). -/
theorem test_wf_gleft_vdu4 : Instr.wfUnder false .gleft = false := by decide

/-! ### Decoding: every constructor, bytes from 30_encoding.md R81 and R89 -/

theorem test_decode_nul : decode false [0] = .ok (.nul) [] := by decide

theorem test_decode_vdu1 : decode false [1, 65] = .ok (.vdu1 65) [] := by decide

theorem test_decode_vdu2 : decode false [2] = .ok (.vdu2) [] := by decide

theorem test_decode_vdu3 : decode false [3] = .ok (.vdu3) [] := by decide

theorem test_decode_vdu4 : decode false [4] = .ok (.vdu4) [] := by decide

theorem test_decode_vdu5 : decode false [5] = .ok (.vdu5) [] := by decide

theorem test_decode_vdu6 : decode false [6] = .ok (.vdu6) [] := by decide

theorem test_decode_vdu7 : decode false [7] = .ok (.vdu7) [] := by decide

theorem test_decode_left : decode false [8] = .ok (.left) [] := by decide

theorem test_decode_gleft : decode true [8] = .ok (.gleft) [] := by decide

theorem test_decode_right : decode false [9] = .ok (.right) [] := by decide

theorem test_decode_gright : decode true [9] = .ok (.gright) [] := by decide

theorem test_decode_down : decode false [10] = .ok (.down) [] := by decide

theorem test_decode_gdown : decode true [10] = .ok (.gdown) [] := by decide

theorem test_decode_up : decode false [11] = .ok (.up) [] := by decide

theorem test_decode_gup : decode true [11] = .ok (.gup) [] := by decide

theorem test_decode_cls : decode false [12] = .ok (.cls) [] := by decide

theorem test_decode_gcls : decode true [12] = .ok (.gcls) [] := by decide

theorem test_decode_cr : decode false [13] = .ok (.cr) [] := by decide

theorem test_decode_gcr : decode true [13] = .ok (.gcr) [] := by decide

theorem test_decode_vdu14 : decode false [14] = .ok (.vdu14) [] := by decide

theorem test_decode_vdu15 : decode false [15] = .ok (.vdu15) [] := by decide

theorem test_decode_clg : decode false [16] = .ok (.clg) [] := by decide

theorem test_decode_colour : decode false [17, 130] = .ok (.colour 0x82) [] := by decide

theorem test_decode_gcol : decode false [18, 3, 1] = .ok (.gcol 3 1) [] := by decide

theorem test_decode_palette : decode false [19, 1, 8, 10, 20, 30] = .ok (.palette 1 8 10 20 30) [] := by decide

theorem test_decode_defcol : decode false [20] = .ok (.defcol) [] := by decide

theorem test_decode_vdu21 : decode false [21] = .ok (.vdu21) [] := by decide

theorem test_decode_mode : decode false [22, 9] = .ok (.mode 9) [] := by decide

theorem test_decode_vdu23 : decode false [23, 65, 1, 2, 3, 4, 5, 6, 7, 8] = .ok (.vdu23 65 1 2 3 4 5 6 7 8) [] := by decide

theorem test_decode_gwindow : decode false [24, 0, 0, 1, 0, 255, 1, 255, 0] = .ok (.gwindow 0 1 0x01FF 0x00FF) [] := by decide

theorem test_decode_plot : decode false [25, 4, 0, 5, 240, 255] = .ok (.plot 4 0x0500 0xFFF0) [] := by decide

theorem test_decode_defwin : decode false [26] = .ok (.defwin) [] := by decide

theorem test_decode_esc : decode false [27, 12] = .ok (.esc 12) [] := by decide

theorem test_decode_twindow : decode false [28, 0, 24, 39, 1] = .ok (.twindow 0 24 39 1) [] := by decide

theorem test_decode_origin : decode false [29, 128, 2, 0, 2] = .ok (.origin 0x0280 0x0200) [] := by decide

theorem test_decode_home : decode false [30] = .ok (.home) [] := by decide

theorem test_decode_ghome : decode true [30] = .ok (.ghome) [] := by decide

theorem test_decode_tab : decode false [31, 5, 3] = .ok (.tab 5 3) [] := by decide

theorem test_decode_gtab : decode true [31, 5, 3] = .ok (.gtab 5 3) [] := by decide

theorem test_decode_del : decode false [127] = .ok (.del) [] := by decide

theorem test_decode_gdel : decode true [127] = .ok (.gdel) [] := by decide

theorem test_decode_print : decode false [65] = .ok (.print 65) [] := by decide

theorem test_decode_print_high : decode true [255] = .ok (.print 255) [] := by decide

/-- Bytes after the command are left (T16). -/
theorem test_decode_rest : decode false [5, 31, 1, 1] = .ok .vdu5 [31, 1, 1] := by decide

/-- Too few argument bytes are rejected by name (70_reset_and_hazards.md R296). -/
theorem test_decode_truncated : decode false [28, 0, 24] = .truncated 28 4 2 := by decide

theorem test_decode_empty : decode false [] = .empty := by decide

/-- The table's numbering: VDU 31, 5, 3 as one number. -/
theorem test_table_word_tab : decodeTableWord 24 0x03051F = some (.tab 5 3) := by decide

theorem test_encode_plot : encode (.plot 4 0x0500 0xFFF0) = [25, 4, 0, 5, 0xF0, 0xFF] := by decide

/-! ### Text cursor (T20 to T29) -/

/-- T20: at the top-left cell VDU 8 scrolls down and wraps. -/
theorem test_left_scrolls :
    field (exec .left s0) (·.txt) = some ⟨79, 0⟩ ∧
      issued s0 (exec .left s0) = some [.request (.smScroll ⟨0, 0, 639, 479⟩ .down 0)] := by decide

/-- R136's example. -/
theorem test_left_wraps :
    field (exec .left (textAt 0 24 39 0 0 5)) (·.txt) = some ⟨39, 4⟩ := by decide

/-- T21. -/
theorem test_right_scrolls :
    field (exec .right (textAt 0 59 79 0 79 59)) (·.txt) = some ⟨0, 59⟩ ∧
      issued s0 (exec .right (textAt 0 59 79 0 79 59)) = some [.request (.smScroll ⟨0, 0, 639, 479⟩ .up 0)] := by decide

/-- T22. -/
theorem test_down_scrolls :
    field (exec .down (textAt 0 59 79 0 10 59)) (·.txt) = some ⟨10, 59⟩ ∧
      issued s0 (exec .down (textAt 0 59 79 0 10 59)) = some [.request (.smScroll ⟨0, 0, 639, 479⟩ .up 0)] := by decide

/-- T22, second part. -/
theorem test_down_moves :
    field (exec .down (textAt 0 59 79 0 10 58)) (·.txt) = some ⟨10, 59⟩ ∧
      issued s0 (exec .down (textAt 0 59 79 0 10 58)) = some [] := by decide

/-- T23. -/
theorem test_up_scrolls :
    field (exec .up (textAt 0 59 79 0 10 0)) (·.txt) = some ⟨10, 0⟩ ∧
      issued s0 (exec .up (textAt 0 59 79 0 10 0)) = some [.request (.smScroll ⟨0, 0, 639, 479⟩ .down 0)] := by decide

/-- R139's example. -/
theorem test_up_moves :
    field (exec .up (textAt 0 59 79 0 3 7)) (·.txt) = some ⟨3, 6⟩ := by decide

/-- T29. -/
theorem test_cls :
    field (exec .cls (textAt 2 10 20 5 7 7)) (·.txt) = some ⟨2, 5⟩ ∧
      issued s0 (exec .cls (textAt 2 10 20 5 7 7)) = some [.request (.smClearArea ⟨16, 392, 167, 439⟩ 0 0)] := by decide

/-- T24. -/
theorem test_cr :
    field (exec .cr (textAt 0 59 79 0 17 3)) (·.txt) = some ⟨0, 3⟩ := by decide

/-- T25. -/
theorem test_home :
    field (exec .home (textAt 4 20 30 2 10 10)) (·.txt) = some ⟨4, 2⟩ := by decide

/-- T25. -/
theorem test_tab_corner :
    field (exec (.tab 26 18) (textAt 4 20 30 2 10 10)) (·.txt) = some ⟨30, 20⟩ := by decide

/-- T25: one column too far is ignored. -/
theorem test_tab_rejected :
    field (exec (.tab 27 0) (textAt 4 20 30 2 10 10)) (·.txt) = some ⟨10, 10⟩ ∧
      issued s0 (exec (.tab 27 0) (textAt 4 20 30 2 10 10)) = some [.outcome (.rejected .tab)] := by decide

/-- T27. -/
theorem test_del :
    field (exec .del (textAt 0 59 79 0 5 3)) (·.txt) = some ⟨4, 3⟩ ∧
      issued s0 (exec .del (textAt 0 59 79 0 5 3)) = some [.request (.smWriteChar 32 4 3 7 0)] := by decide

/-- T28. -/
theorem test_del_at_top :
    issued s0 (exec .del s0) =
      some [.request (.smScroll ⟨0, 0, 639, 479⟩ .down 0), .request (.smWriteChar 32 79 0 7 0)] := by decide

/-! ### Graphics cursor (T30 to T36) -/

/-- T30. -/
theorem test_gleft :
    field (exec .gleft (gfxAt 0 943)) (·.g0) = some ⟨1264, 959⟩ := by decide

/-- T31. -/
theorem test_gright :
    field (exec .gright (gfxAt 1264 959)) (·.g0) = some ⟨0, 943⟩ := by decide

/-- T32. -/
theorem test_gdown_wraps :
    field (exec .gdown (gfxAt 100 15)) (·.g0) = some ⟨100, 959⟩ := by decide

/-- T32, second part. -/
theorem test_gdown_fits :
    field (exec .gdown (gfxAt 0 31)) (·.g0) = some ⟨0, 15⟩ := by decide

/-- T33. -/
theorem test_gup :
    field (exec .gup (gfxAt 100 959)) (·.g0) = some ⟨100, 15⟩ := by decide

/-- T34. -/
theorem test_gcr :
    field (exec .gcr (gfxAt 640 500)) (·.g0) = some ⟨0, 500⟩ := by decide

/-- T34. -/
theorem test_ghome :
    field (exec .ghome (gfxAt 640 500)) (·.g0) = some ⟨0, 959⟩ := by decide

/-- T35. -/
theorem test_gtab :
    field (exec (.gtab 79 59) (gfxAt 0 0)) (·.g0) = some ⟨1264, 15⟩ := by decide

/-- T35: a cell that does not fit is ignored. -/
theorem test_gtab_rejected :
    field (exec (.gtab 0 60) (gfxAt 7 7)) (·.g0) = some ⟨7, 7⟩ ∧
      issued s0 (exec (.gtab 0 60) (gfxAt 7 7)) = some [.outcome (.rejected .tab)] := by decide

/-- T36. -/
theorem test_gdel :
    field (exec .gdel (gfxAt 32 959)) (·.g0) = some ⟨16, 959⟩ ∧
      issued s0 (exec .gdel (gfxAt 32 959)) = some [.request (.dpFillRect ⟨8, 472, 15, 479⟩ 0 0 ⟨0, 0, 639, 479⟩)] := by decide

/-- T17. -/
theorem test_gcls :
    field (exec .gcls (gfxAt 3 3)) (·.g0) = some ⟨0, 959⟩ ∧
      issued s0 (exec .gcls (gfxAt 3 3)) = some [.request (.smClearArea ⟨0, 0, 639, 479⟩ 0 0)] := by decide

/-! ### Printing and VDU 27 (T38 to T47) -/

/-- T39. -/
theorem test_print_text :
    field (exec (.print 65) (textAt 0 59 79 0 79 59)) (·.txt) = some ⟨0, 59⟩ ∧
      issued s0 (exec (.print 65) (textAt 0 59 79 0 79 59)) =
        some [.request (.smWriteChar 65 79 59 7 0), .request (.smScroll ⟨0, 0, 639, 479⟩ .up 0)] := by decide

/-- T40. -/
theorem test_print_gfx :
    field (exec (.print 65) (gfxAt 0 959)) (·.g0) = some ⟨16, 959⟩ ∧
      issued s0 (exec (.print 65) (gfxAt 0 959)) = some [.request (.dpPaintGlyph 65 0 479 7 0 ⟨0, 0, 639, 479⟩)] := by decide

/-- T42. -/
theorem test_esc_literal :
    field (exec (.esc 12) s0) (·.txt) = some ⟨1, 0⟩ ∧
      issued s0 (exec (.esc 12) s0) = some [.request (.smWriteChar 12 0 0 7 0)] := by decide

/-- T43: the edit cursor moves and the block cursor is shown at the text cursor. -/
theorem test_esc_edit_key :
    field (runCommand (.esc 137) (textAt 0 59 79 0 5 3)) (fun t => (t.edit, t.ed, t.txt, t.bcVisible)) =
        some (true, ⟨6, 3⟩, ⟨5, 3⟩, true) ∧
      issued s0 (runCommand (.esc 137) (textAt 0 59 79 0 5 3)) = some [.request (.smXorCell ⟨40, 448, 47, 455⟩)] := by decide

/-- T45. -/
theorem test_edit_wrap :
    (editKey .right { s0 with edit := true, ed := ⟨79, 59⟩ }).ed = ⟨0, 0⟩ ∧
      (editKey .left { s0 with edit := true, ed := ⟨0, 0⟩ }).ed = ⟨79, 59⟩ := by decide

/-! ### Windows, origin, PLOT (T48 to T58) -/

/-- T57. -/
theorem test_clg :
    issued s0 (exec .clg { s0 with gw := ⟨0, 0, 511, 255⟩ }) = some [.request (.smClearArea ⟨0, 0, 255, 127⟩ 0 0)] := by decide

/-- T48. -/
theorem test_gwindow :
    field (exec (.gwindow 0 0 511 255) s0) (·.gw) = some ⟨0, 0, 511, 255⟩ ∧
      issued s0 (exec (.gwindow 0 0 1280 959) s0) = some [.outcome (.rejected .gwindow)] := by decide

/-- T49. -/
theorem test_gwindow_origin :
    field (exec (.gwindow 0 0 100 100) { s0 with org := ⟨640, 512⟩ }) (·.gw) = some ⟨640, 512, 740, 612⟩ ∧
      issued s0 (exec (.gwindow 0xFD00 0 0 0) { s0 with org := ⟨640, 512⟩ }) = some [.outcome (.rejected .gwindow)] := by decide

/-- T50. -/
theorem test_plot_move :
    field (exec (.plot 4 0x0500 0x0400) s0) (fun t => (t.g0, t.g1, t.g2)) = some (⟨1280, 1024⟩, ⟨0, 0⟩, ⟨0, 0⟩) ∧
      issued s0 (exec (.plot 4 0x0500 0x0400) s0) = some [] := by decide

/-- T53, the last command. -/
theorem test_plot_draw :
    issued s0 (exec (.plot 85 100 200) { s0 with g0 := ⟨200, 0⟩ }) =
      some [.request (.dpPlot 10 1 7 0 ⟨50, 100⟩ ⟨100, 0⟩ ⟨0, 0⟩ ⟨0, 0, 639, 479⟩ 0)] := by decide

/-- T56. -/
theorem test_defwin :
    field (exec .defwin { s0 with tw := ⟨5, 10, 20, 2⟩, org := ⟨10, 10⟩, g0 := ⟨60, 60⟩, g1 := ⟨60, 60⟩ })
        (fun t => (t.tw, t.gw, t.org, t.g0, t.g1)) =
      some (⟨0, 59, 79, 0⟩, ⟨0, 0, 1279, 959⟩, ⟨0, 0⟩, ⟨0, 0⟩, ⟨60, 60⟩) := by decide

/-- T6: a one-cell window; the cursor moves into it. -/
theorem test_twindow :
    field (exec (.twindow 79 59 79 59) s0) (fun t => (t.tw, t.txt)) = some (⟨79, 59, 79, 59⟩, ⟨79, 59⟩) := by decide

/-- T6: r = TW. -/
theorem test_twindow_rejected :
    field (exec (.twindow 0 59 80 0) s0) (·.tw) = some ⟨0, 59, 79, 0⟩ ∧
      issued s0 (exec (.twindow 0 59 80 0) s0) = some [.outcome (.rejected .twindow)] := by decide

/-- R189's example. -/
theorem test_origin :
    field (exec (.origin 0x0280 0x0200) s0) (·.org) = some ⟨640, 512⟩ := by decide

/-! ### Colour (T59 to T63) -/

/-- T59. -/
theorem test_colour :
    field (exec (.colour 0x45) s0) (·.col.tfg) = some 5 ∧
      field (exec (.colour 3) { s0 with col := { s0.col with tfg := 0x87 } }) (·.col.tfg) = some 0x83 := by decide

/-- R211's example. -/
theorem test_colour_background :
    field (exec (.colour 0x82) s0) (fun t => (t.col.tfg, t.col.tbg)) = some (7, 2) := by decide

/-- T60. -/
theorem test_gcol :
    field (exec (.gcol 3 1) s0) (fun t => (t.col.gfg, t.col.gfgAct)) = some (1, 3) ∧
      field (exec (.gcol 0 0x81) s0) (fun t => (t.col.gbg, t.col.gbgAct)) = some (1, 0) := by decide

/-- T3. -/
theorem test_palette_grey :
    issued s0 (exec (.palette 1 8 0 0 0) s0) = some [.request (.smSetColour 1 63 63 63)] := by decide

/-- T61. -/
theorem test_palette_channels :
    issued s0 (exec (.palette 2 6 9 9 9) s0) = some [.request (.smSetColour 2 0 127 127)] ∧
      issued s0 (exec (.palette 200 255 1 2 3) s0) = some [.request (.smSetColour 200 1 2 3)] := by decide

/-- T62. -/
theorem test_defcol :
    field (exec .defcol { s0 with col := ⟨5, 2, 1, 1, 3, 2⟩ }) (·.col) = some ⟨7, 0, 7, 0, 0, 0⟩ := by decide

/-- T63. -/
theorem test_tint :
    field (exec (.vdu23 17 0 0x80 0 0 0 0 0 0) s0) (·.col.tfg) = some 0x87 ∧
      field (exec (.vdu23 17 4 0xC0 0 0 0 0 0 0) s0) (·.col) = some s0.col := by decide

/-! ### Control codes (T15 to T19) -/

/-- T15. -/
theorem test_nul_no_effect : after (exec (.nul) s0) = some s0 := by rfl

/-- T15. -/
theorem test_vdu1_no_effect : after (exec (.vdu1 12) s0) = some s0 := by rfl

/-- T15. -/
theorem test_vdu2_no_effect : after (exec (.vdu2) s0) = some s0 := by rfl

/-- T15. -/
theorem test_vdu3_no_effect : after (exec (.vdu3) s0) = some s0 := by rfl

/-- T15. -/
theorem test_vdu6_no_effect : after (exec (.vdu6) s0) = some s0 := by rfl

/-- T15. -/
theorem test_vdu7_no_effect : after (exec (.vdu7) s0) = some s0 := by rfl

/-- T15. -/
theorem test_vdu14_no_effect : after (exec (.vdu14) s0) = some s0 := by rfl

/-- T15. -/
theorem test_vdu15_no_effect : after (exec (.vdu15) s0) = some s0 := by rfl

/-- T15. -/
theorem test_vdu21_no_effect : after (exec (.vdu21) s0) = some s0 := by rfl

/-- T17. -/
theorem test_vdu5 :
    field (exec .vdu5 s0) (fun t => (t.vdu5, t.dt.h9, t.dt.h127)) = some (true, .gright, .gdel) := by decide

/-- T18. -/
theorem test_vdu4 :
    field (exec .vdu4 (bindTo true s0)) (fun t => (t.vdu5, t.dt)) = some (false, textBindings) := by decide

/-! ### Modes and VDU 23 (T5, T58, T64 to T69) -/

/-- T64: no SM.Init. -/
theorem test_mode_same :
    issued s0 (exec (.mode 0) { s0 with txt := ⟨3, 3⟩ }) =
      some [.request .smResetPixels, .request .smGeometry, .request .fontMetrics, .request .smResetColours,
        .request (.smClearArea ⟨0, 0, 639, 479⟩ 0 0), .request .dpClearSprites] := by decide

/-- T64 from a state with another font active: the reset state's glyph size and grid. -/
theorem test_mode_restores_font :
    let s := { s0 with scr := { s0.scr with fh := 16 }, tw := ⟨0, 29, 79, 0⟩, collab := { s0.collab with font := ⟨8, 16⟩ } }
    field (exec (.mode 0) s) (fun t => (t.scr, t.tw, t.collab)) = some (s0.scr, s0.tw, s0.collab) := by decide

/-- T5: the failure text is queued. -/
theorem test_mode_unsupported :
    field (exec (.mode 9) s0) (fun t => (t.scr.mode, unread t)) = some (.builtin 0, failureText) := by decide

/-- T65. -/
theorem test_define_glyph :
    issued s0 (exec (.vdu23 65 255 129 129 129 129 129 129 255) s0) =
      some [.request (.fontDefineGlyph 65 [255, 129, 129, 129, 129, 129, 129, 255])] := by decide

/-- T67. -/
theorem test_unknown_sub :
    issued s0 (exec (.vdu23 29 1 2 3 4 5 6 7 8) s0) =
      some [.request (.smUnknown [23, 29, 1, 2, 3, 4, 5, 6, 7, 8]), .outcome (.unknownSub 29)] := by decide

/-- T66. -/
theorem test_cursor_enable :
    field (exec (.vdu23 1 0 0 0 0 0 0 0 0) s0) (·.cursorEnabled) = some false ∧
      field (exec (.vdu23 1 1 0 0 0 0 0 0 0) { s0 with cursorEnabled := false }) (·.cursorEnabled) = some true := by decide

/-- T58. -/
theorem test_font_reclamp :
    field (exec (.vdu23 10 0 0 0 0 0 0 0 0)
        { textAt 0 59 79 0 3 45 with collab := { s0.collab with fontAnswers := [⟨8, 16⟩] } })
        (fun t => (t.tw, t.txt)) = some (⟨0, 29, 79, 0⟩, ⟨3, 29⟩) := by decide

/-- R243: eight sentinel bytes leave the font in force. -/
theorem test_font_sentinel :
    let s := { s0 with scr := { s0.scr with fh := 16 }, tw := ⟨0, 29, 79, 0⟩,
                       collab := { s0.collab with font := ⟨8, 16⟩, fontAnswers := [⟨8, 8⟩] } }
    field (exec (.vdu23 10 255 255 255 255 255 255 255 255) s) (fun t => (t.scr, t.collab)) = some (s.scr, s.collab) := by
  decide

/-- T68, with a geometry the collaborator answers. -/
theorem test_mode_define :
    field (exec (.vdu23 22 1 2 3 4 5 6 7 8)
        { s0 with collab := { s0.collab with geometryAnswers := [⟨320, 256, 8, 2, 2, 256⟩] } })
        (fun t => (t.scr.mode, t.tw, t.gw)) = some (.custom, ⟨0, 31, 39, 0⟩, ⟨0, 0, 1279, 1023⟩) := by decide

/-- T69. -/
theorem test_sprites :
    field (exec (.vdu23 27 3 0 0 0 0 0 0 0) s0) (·.sprSel) = some 3 ∧
      issued s0 (exec (.vdu23 28 1 2 3 4 5 6 7 8) { s0 with sprSel := 3 }) =
        some [.request (.dpDefineSprite 3 [1, 2, 3, 4, 5, 6, 7, 8])] := by decide

/-! ### Framer, queue, tick, gate (T12, T71, T75 to T79) -/

/-- T12: 31 then 5. -/
theorem test_framer_buffers :
    field (Host.Core.run Sys2Proof.core 7
        { s0 with agents := { s0.agents with sched := [.byteIn 31, .byteIn 5, .tick] } })
        (fun t => (t.framer.state, t.framer.exp, t.framer.cnt, t.framer.buf.take 3, t.txt)) =
      some (.bufferingArgs, 2, 1, [31, 5, 0], ⟨0, 0⟩) := by decide

/-- T2: the last byte of [31, 5, 3] runs TAB. -/
theorem test_framer_completes :
    field (placed [31, 5, 3]) (fun t => (t.framer.state, t.txt, t.queue.count)) = some (.awaitingOpcode, ⟨5, 3⟩, 0) := by decide

/-- R71: a byte enqueued after a pop and before its framing; the queue was full, so the pop makes room for it. -/
theorem test_enqueue_between_pop_and_handler :
    field (Host.Core.run Sys2Proof.core 3
        { s0 with
          params := { s0.params with qcap := 16 }
          queue := { buf := (List.range 16).map fun i => (i, 9), w := 0, r := 0, count := 16 }
          agents := { s0.agents with consumer := .draining, sched := [.consumer, .byteIn 65, .consumer] } })
        (fun t => (t.queue.r, t.queue.w, t.queue.count, t.txt)) = some (1, 1, 16, ⟨1, 0⟩) := by decide

/-- T71: one byte into a full queue of 16. -/
theorem test_enqueue_overflow :
    field (enqueue 99 { s0 with params := { s0.params with qcap := 16 }, queue := ⟨[], 0, 0, 16⟩ })
        (fun t => (t.queue.r, t.queue.w, t.queue.count)) = some (1, 1, 16) := by decide

/-- T75. -/
theorem test_blink_edit :
    (blink { s0 with blinkCnt := 200, edit := true }).fcVisible = true ∧
      (blink { s0 with blinkCnt := 200, edit := true }).blinkCnt = 0 := by decide

/-- T76. -/
theorem test_hide_and_show :
    issued s0 (runCommand .right { s0 with fcVisible := true }) =
      some [.request (.smXorCell ⟨0, 472, 7, 472⟩), .request (.smXorCell ⟨8, 472, 15, 472⟩)] := by decide

/-- T78. -/
theorem test_flash :
    (flash { s0 with flashCnt := 49 }).flashCnt = 0 ∧ (flash { s0 with flashCnt := 48 }).flashCnt = 49 := by decide

/-- T79. -/
theorem test_vsync_gate :
    (waitVsync (setVsync (setVsync s0))).vsync = false ∧ (waitVsync s0).agents.waiters = 1 := by decide

/-- T1's query. -/
theorem test_query_window :
    (answerQuery .textWindowCells (textAt 0 24 39 0 0 0)).trace.drop s0.trace.length =
      [.reply .textWindowCells (.cells ⟨0, 24, 39, 0⟩)] := by decide

/-- R69: a character query asked again at once gets the same reply. -/
theorem test_query_char_idempotent :
    (answerQuery .charAtText (answerQuery .charAtText s0)).trace.getLast? =
      (answerQuery .charAtText s0).trace.getLast? := by rfl

/-- 95_test_vectors.md section 0: the requests of reset, and the state it leaves. -/
theorem test_startup :
    after (startup s0) = some { s0 with trace := s0.trace ++ s0.trace, reinit := true } := by rfl

/-- The first step after reset runs a placed table word (log 7). -/
theorem test_table_word_step :
    field (step (s0.withFetchWord 8 0x08)) (·.txt) = some ⟨79, 0⟩ := by decide

set_option maxRecDepth 20000

/-! ### Witnesses: a concrete state and operands for every statement with hypotheses

Each meets all the hypotheses of the statement it is named after, one conjunct or theorem for each clause, at boundary
values of the clause. -/

/-- S0 with these bytes queued from slot 0 and a tick in progress. -/
def queued (bs : List Byte) : State :=
  { s0 with
    queue := { buf := (List.range bs.length).zip bs, w := bs.length, r := 0, count := bs.length }
    agents := { s0.agents with consumer := .draining } }

/-- S0 on a platform with a full queue of 16 slots whose oldest byte is in slot 15. -/
def fullQueue : State :=
  { s0 with
    params := { s0.params with qcap := 16 }
    queue := { buf := (List.range 16).map fun i => (i, 7), w := 15, r := 15, count := 16 } }

/-- S0 with a byte popped and about to be framed. -/
def framing (b : Byte) : State := { s0 with agents := { s0.agents with consumer := .framing b } }

/-- S0 part way through VDU 31, its first argument popped and about to be framed. -/
def buffering : State :=
  { framing 5 with
    framer := { state := .bufferingArgs, exp := 2, cnt := 0, handler := some .ttab, buf := 31 :: List.replicate 9 0 } }

theorem test_witness_DecodeOfEncode :
    Instr.wfUnder false (.tab 255 0) = true ∧ Instr.wfUnder true (.gtab 0 255) = true ∧
    Instr.wfUnder true (.print 32) = true ∧ Instr.wfUnder false (.print 255) = true := by decide

theorem test_witness_EncodeOfDecode : decode true [31, 255, 0, 7] = .ok (.gtab 255 0) [7] := by decide

theorem test_witness_LastByteRuns_opcode :
    let s := framing 65
    (nextTurn s).1 = .consumer ∧ (nextTurn s).2.agents.consumer = .framing 65 ∧ bindingOk (nextTurn s).2 ∧
    framerOk (nextTurn s).2 ∧ decode (nextTurn s).2.vdu5 (framed (nextTurn s).2 ++ [65]) = .ok (.print 65) [] := by decide

theorem test_witness_LastByteRuns_argument :
    let s := placeCommand s0 [31, 5, 3]
    (nextTurn s).1 = .consumer ∧ (nextTurn s).2.agents.consumer = .framing 3 ∧ bindingOk (nextTurn s).2 ∧
    framerOk (nextTurn s).2 ∧ decode (nextTurn s).2.vdu5 (framed (nextTurn s).2 ++ [3]) = .ok (.tab 5 3) [] := by decide

theorem test_witness_IncompleteCommand_opcode :
    let s := framing 31
    (nextTurn s).1 = .consumer ∧ (nextTurn s).2.agents.consumer = .framing 31 ∧ bindingOk (nextTurn s).2 ∧
    framerOk (nextTurn s).2 ∧ decode (nextTurn s).2.vdu5 (framed (nextTurn s).2 ++ [31]) = .truncated 31 2 0 := by decide

theorem test_witness_IncompleteCommand_argument :
    let s := buffering
    (nextTurn s).1 = .consumer ∧ (nextTurn s).2.agents.consumer = .framing 5 ∧ bindingOk (nextTurn s).2 ∧
    framerOk (nextTurn s).2 ∧ decode (nextTurn s).2.vdu5 (framed (nextTurn s).2 ++ [5]) = .truncated 31 2 1 := by decide

theorem test_witness_QueuedCommandRuns :
    let s := queued [31, 5, 3, 65]
    s.Inv ∧ draining s ∧ s.framer.state = .awaitingOpcode ∧ Instr.wfUnder s.vdu5 (.tab 5 3) = true ∧
    unread s = encode (.tab 5 3) ++ [65] := by decide

theorem test_witness_PlacedWordRuns :
    bindingOk s0 ∧ s0.vdu5 = false ∧ s0.framer.buf.length = fbufLen ∧
    decodeTableWord 24 0x03051F = some (.tab 5 3) := by decide

/-- Room left, none left, and the turn after startup and before it. -/
theorem test_witness_Enqueue :
    queueOk s0 ∧ s0.queue.count ≠ s0.params.qcap ∧ queueOk fullQueue ∧
    fullQueue.queue.count = fullQueue.params.qcap ∧
    (let s := { s0 with agents := { s0.agents with sched := [.byteIn 31] } };
      s.agents.sched = .byteIn 31 :: [] ∧ s.scr.mode ≠ .noMode ∧
      { s with scr := { s.scr with mode := .noMode } }.scr.mode = .noMode) := by decide

theorem test_witness_Pop :
    queueOk (queued [65]) ∧ 0 < (queued [65]).queue.count ∧ (queued [65]).agents.consumer = .draining ∧
    queueOk fullQueue ∧ 0 < fullQueue.queue.count := by decide

theorem test_witness_NewestBytes : queueOk fullQueue := by decide

theorem test_witness_Startup : platformOk s0.params := by decide

/-- Platform P, and one whose buffers hold other bytes at power-on. -/
theorem test_witness_ResetState :
    platformOk Config.platform ∧
    platformOk { Config.platform with qfill := List.replicate 32 65, ffill := List.replicate 10 255 } := by decide

theorem test_witness_EveryStepKeeps : s0.Inv ∧ ∃ t, step s0 = .next t := ⟨by decide, _, rfl⟩

theorem test_witness_EveryStepKeeps_command :
    (framing 65).Inv ∧ ∃ t, step (framing 65) = .next t := ⟨by decide, _, rfl⟩

theorem test_witness_NoStepFaults : (placeCommand s0 [31, 5, 3]).Inv := by decide

/-- The cursor one cell in from the left and top edges, on each, and on both. -/
theorem test_witness_LeftAndUp :
    (let s := textAt 2 10 20 5 3 6; s.tw.l < s.txt.x ∧ s.tw.t < s.txt.y) ∧
    (let s := textAt 2 10 20 5 2 6; s.txt.x ≤ s.tw.l ∧ s.tw.t < s.txt.y) ∧
    (let s := textAt 2 10 20 5 2 5; s.txt.x ≤ s.tw.l ∧ s.txt.y ≤ s.tw.t) := by decide

/-- The cursor one cell in from the right and bottom edges, on each, and on both. -/
theorem test_witness_RightAndDown :
    (let s := textAt 2 10 20 5 19 9; s.txt.x < s.tw.r ∧ s.txt.y < s.tw.b) ∧
    (let s := textAt 2 10 20 5 20 9; s.tw.r ≤ s.txt.x ∧ s.txt.y < s.tw.b) ∧
    (let s := textAt 2 10 20 5 20 10; s.tw.r ≤ s.txt.x ∧ s.tw.b ≤ s.txt.y) := by decide

/-- The bottom-right cell is reached; one more in either coordinate is not. -/
theorem test_witness_Tab :
    let s := textAt 2 10 20 5 2 5
    (s.tw.l + (18 : Byte).toNat ≤ s.tw.r ∧ s.tw.t + (5 : Byte).toNat ≤ s.tw.b) ∧
    s.tw.r < s.tw.l + (19 : Byte).toNat ∧ s.tw.b < s.tw.t + (6 : Byte).toNat := by decide

theorem test_witness_TextCommandsStay :
    let s := textAt 20 10 20 10 20 10
    Instr.del ∈ [Instr.left, .right, .down, .up, .cls, .cr, .home, .del] ∧ s.tw.l ≤ s.tw.r ∧ s.tw.t ≤ s.tw.b ∧
    inside s.tw s.txt = true := by decide

/-- On P a cell is 16 by 16 external units and the window ends at 1279: the last step that fits, and one unit more. -/
theorem test_witness_GraphicsMotion :
    (gfxAt 1248 959).g0.x + 16 + 16 - 1 = (gfxAt 1248 959).gw.r ∧
    (gfxAt 1248 959).gw.r.toInt < ((gfxAt 1249 959).g0.x + 16 + 16 - 1).toInt ∧
    (gfxAt 16 959).g0.x - 16 = (gfxAt 16 959).gw.l ∧
    ((gfxAt 15 959).g0.x - 16).toInt < (gfxAt 15 959).gw.l.toInt ∧ stepX s0 = 16 := by decide

/-- The bottom-right cell of 80 by 60 is reached; one more in either coordinate is not. -/
theorem test_witness_GraphicsTab :
    let s := gfxAt 0 959
    (s.gw.l + 79 * 16 + 16 - 1).toInt ≤ s.gw.r.toInt ∧ s.gw.b.toInt ≤ (s.gw.t - 59 * 16 - 16 + 1).toInt ∧
    s.gw.r.toInt < (s.gw.l + 80 * 16 + 16 - 1).toInt ∧ (s.gw.t - 60 * 16 - 16 + 1).toInt < s.gw.b.toInt := by decide

/-- A window of exactly one cell. -/
theorem test_witness_GraphicsMotionKeeps :
    let s := { gfxAt 100 115 with gw := ⟨100, 100, 115, 115⟩ }
    0 ≤ s.gw.l.toInt ∧ 0 ≤ s.gw.b.toInt ∧ s.gw.r.toInt < 2 ^ 30 ∧ s.gw.t.toInt < 2 ^ 30 ∧
    0 < (stepX s).toInt ∧ (stepX s).toInt ≤ s.gw.r.toInt - s.gw.l.toInt + 1 ∧
    0 < (stepY s).toInt ∧ (stepY s).toInt ≤ s.gw.t.toInt - s.gw.b.toInt + 1 ∧
    s.gw.l.toInt ≤ s.g0.x.toInt ∧ s.g0.x.toInt + (stepX s).toInt - 1 ≤ s.gw.r.toInt ∧
    s.gw.b.toInt ≤ s.g0.y.toInt - (stepY s).toInt + 1 ∧ s.g0.y.toInt ≤ s.gw.t.toInt := by decide

theorem test_witness_Print : s0.vdu5 = false ∧ (gfxAt 0 959).vdu5 = true := by decide

theorem test_witness_EscapedByte :
    let k := s0.params.editKeys
    (12 : Byte) ≠ k.left ∧ (12 : Byte) ≠ k.right ∧ (12 : Byte) ≠ k.down ∧ (12 : Byte) ≠ k.up := by decide

theorem test_witness_EditKeys :
    let k := s0.params.editKeys
    [k.left, k.right, k.down, k.up].Nodup := by decide

/-- The largest window is valid; one unit wider, and one of no width, are not. -/
theorem test_witness_GraphicsWindow :
    let valid (L B R T : Word) : Prop := L.toInt < R.toInt ∧ B.toInt < T.toInt ∧
      0 ≤ L.toInt ∧ R.toInt < (BitVec.ofNat 32 s0.scr.w <<< s0.scr.eigx).toInt ∧
      0 ≤ B.toInt ∧ T.toInt < (BitVec.ofNat 32 s0.scr.h <<< s0.scr.eigy).toInt
    valid 0 0 1279 959 ∧ ¬ valid 0 0 1280 959 ∧ ¬ valid 5 0 5 959 ∧ ¬ valid (-1) 0 5 959 := by decide

/-- The whole 80 by 60 grid fits and keeps every cursor; a one-cell window leaves out a cursor at (0, 0); one column more
does not fit. -/
theorem test_witness_TextWindow :
    let fits (l b r t : Byte) : Prop :=
      l.toNat ≤ r.toNat ∧ r.toNat < s0.scr.w / s0.scr.fw ∧ t.toNat ≤ b.toNat ∧ b.toNat < s0.scr.h / s0.scr.fh
    let keeps (l b r t : Byte) (p : TextPos) : Prop := l.toNat ≤ p.x ∧ p.x ≤ r.toNat ∧ t.toNat ≤ p.y ∧ p.y ≤ b.toNat
    fits 0 59 79 0 ∧ keeps 0 59 79 0 s0.txt ∧ fits 1 1 1 1 ∧ ¬ keeps 1 1 1 1 s0.txt ∧
    { s0 with edit := true }.edit = true ∧ ¬ keeps 1 1 1 1 s0.ed ∧ ¬ fits 0 59 80 0 ∧ ¬ fits 0 60 79 0 := by decide

theorem test_witness_Plot :
    (4 : Byte).toNat % 4 = 0 ∧ (5 : Byte).toNat % 4 = 1 ∧ (6 : Byte).toNat % 4 = 2 ∧ (255 : Byte).toNat % 4 = 3 := by decide

theorem test_witness_DefaultWindows :
    textOk { s0 with tw := ⟨5, 10, 20, 2⟩, txt := ⟨5, 2⟩, ed := ⟨20, 10⟩, edit := true } := by decide

/-- One cell is a grid; the whole screen of P fits itself. -/
theorem test_witness_Reclamp :
    gridOk { s0.scr with w := 8, h := 8 } = true ∧ gridOk s0.scr = true ∧ twValid s0.scr s0.tw = true ∧
    inside s0.tw s0.txt = true ∧ inside s0.tw s0.ed = true := by decide

theorem test_witness_ColourBytes : (127 : Byte).toNat < 128 ∧ 128 ≤ (128 : Byte).toNat := by decide

theorem test_witness_Palette :
    (8 : Byte).toNat = 8 ∧ ((7 : Byte).toNat < 16 ∧ (7 : Byte).toNat ≠ 8) ∧
    ((15 : Byte).toNat < 16 ∧ (15 : Byte).toNat ≠ 8) ∧ 16 ≤ (16 : Byte).toNat := by decide

theorem test_witness_Binding : isBound 127 = true ∧ isBound 8 = true ∧ isBound 128 = false ∧ isBound 7 = false := by decide

theorem test_witness_CodesWithoutMeaning :
    let s := { s0 with fcVisible := true, bcVisible := true, edit := true }
    Instr.vdu21 ∈ [Instr.nul, .vdu1 12, .vdu2, .vdu3, .vdu6, .vdu7, .vdu14, .vdu15, .vdu21] ∧ paintOk s ∧
    s.reinit = false := by decide

/-- S0 on a platform with this default font and this geometry of mode 0. -/
def onFont (fw fh : Word) (g : Geometry) : State :=
  { s0 with params := { s0.params with font := ⟨fw, fh⟩, modes := [{ number := 0, geometry := g, colours := default }] } }

/-- The geometry of P's mode 0. -/
def vga : Geometry := { w := 640, h := 480, bpp := 8, eigx := 1, eigy := 1, ncol := 256 }

/-- A font as large as the screen still fits. -/
theorem test_witness_SupportedMode :
    ∃ row, modeRow (onFont 640 480 vga).params 0 = some row ∧ geometryOk row.geometry = true ∧
      metricsOk (onFont 640 480 vga).params.font = true ∧
      (onFont 640 480 vga).params.font.fw.toNat ≤ row.geometry.w.toNat ∧
      (onFont 640 480 vga).params.font.fh.toNat ≤ row.geometry.h.toNat := ⟨_, rfl, by decide⟩

theorem test_witness_UnsupportedMode :
    modeRow s0.params 9 = none ∧ queueOk s0 ∧ modeRow fullQueue.params 9 = none ∧ queueOk fullQueue := by decide

/-- A mode of no width; a font of no width; and a glyph one pixel wider, and one pixel higher, than the screen. -/
theorem test_witness_ModeRefuses :
    (∃ row, modeRow (onFont 8 8 { vga with w := 0 }).params 0 = some row ∧ geometryOk row.geometry = false) ∧
    (∃ row, modeRow (onFont 0 8 vga).params 0 = some row ∧ geometryOk row.geometry = true ∧
      metricsOk (onFont 0 8 vga).params.font = false) ∧
    (∃ row, modeRow (onFont 641 8 vga).params 0 = some row ∧ geometryOk row.geometry = true ∧
      metricsOk (onFont 641 8 vga).params.font = true ∧
      row.geometry.w.toNat < (onFont 641 8 vga).params.font.fw.toNat) ∧
    (∃ row, modeRow (onFont 8 481 vga).params 0 = some row ∧ geometryOk row.geometry = true ∧
      metricsOk (onFont 8 481 vga).params.font = true ∧
      row.geometry.h.toNat < (onFont 8 481 vga).params.font.fh.toNat) :=
  ⟨⟨_, rfl, by decide⟩, ⟨_, rfl, by decide⟩, ⟨_, rfl, by decide⟩, _, rfl, by decide⟩

/-- Parameters that name 5 a glyph definition and 6 two kinds. -/
def moreKinds : Params :=
  { s0.params with subCmd := (5, .defineGlyph) :: (6, .tint) :: (6, .cursorEnable) :: s0.params.subCmd }

theorem test_witness_Extended :
    32 ≤ (32 : Byte).toNat ∧ ((31 : Byte).toNat < 32 ∧ ∀ e ∈ s0.params.subCmd, e.1 ≠ 31) ∧
    ((1, SubKind.cursorEnable) ∈ s0.params.subCmd ∧ ∀ e ∈ s0.params.subCmd, e.1 = 1 → e.2 = .cursorEnable) ∧
    ((6, SubKind.tint) ∈ moreKinds.subCmd ∧ (6, SubKind.cursorEnable) ∈ moreKinds.subCmd ∧
      SubKind.tint ≠ .cursorEnable) ∧
    subKind moreKinds 5 = some .defineGlyph ∧ subKind s0.params 1 = some .cursorEnable ∧
    subKind s0.params 27 = some .spriteSelect ∧ subKind s0.params 28 = some .spriteDefine ∧
    subKind moreKinds 6 = none := by decide

theorem test_witness_UnknownSub : subKind s0.params 31 = some .unknown := by decide

theorem test_witness_Tint :
    subKind s0.params 17 = some .tint ∧ (0 : Byte).toNat = 0 ∧ (1 : Byte).toNat = 1 ∧ (2 : Byte).toNat = 2 ∧
    (3 : Byte).toNat = 3 ∧ 3 < (4 : Byte).toNat := by decide

/-- Only the sentinel; one byte that is not; the largest answer that fits, and answers the spec gives no meaning, both as
the font in force and as the next answer; and no answer. -/
theorem test_witness_FontSelect :
    subKind s0.params 10 = some .fontSelect ∧ (∀ x ∈ List.replicate 8 (255 : Byte), x = 255) ∧
    (∃ x ∈ (254 : Byte) :: List.replicate 7 255, x ≠ 255) ∧
    (let m : Metrics := ⟨640, 480⟩; metricsOk m = true ∧ m.fw.toNat ≤ s0.scr.w ∧ m.fh.toNat ≤ s0.scr.h ∧
      { s0.collab with font := m }.font = m ∧ { s0.collab with fontAnswers := [m] }.fontAnswers = m :: []) ∧
    metricsOk ⟨0, 8⟩ = false ∧
    (let m : Metrics := ⟨641, 8⟩; metricsOk m = true ∧ s0.scr.w < m.fw.toNat) ∧
    (let m : Metrics := ⟨8, 481⟩; metricsOk m = true ∧ s0.scr.h < m.fh.toNat) ∧
    s0.collab.fontAnswers = [] ∧ 0 < s0.scr.w ∧ 0 < s0.scr.h := by decide

/-- Platform P, whose default font is 8 by 8: a screen of one glyph, one of no width, and one a pixel too narrow; a platform
whose default font has no width; and no answer. -/
theorem test_witness_CustomMode :
    let g : Geometry := { w := 8, h := 8, bpp := 0, eigx := 0, eigy := 0, ncol := 0 }
    let s (g : Geometry) : State := { s0 with collab := { s0.collab with geometryAnswers := [g] } }
    subKind (s g).params 22 = some .modeDefine ∧ (s g).collab.geometryAnswers = g :: [] ∧
    geometryOk g = true ∧ metricsOk (s g).params.font = true ∧
    (s g).params.font.fw.toNat ≤ g.w.toNat ∧ (s g).params.font.fh.toNat ≤ g.h.toNat ∧
    geometryOk { g with w := 0 } = false ∧ metricsOk (onFont 0 8 vga).params.font = false ∧
    geometryOk { g with w := 7 } = true ∧ ({ g with w := 7 } : Geometry).w.toNat < (s g).params.font.fw.toNat ∧
    s0.collab.geometryAnswers = [] := by decide

theorem test_witness_Counters :
    (let s := { s0 with blinkCnt := 318 }; s.blinkCnt + 1 < 320 ∧ s.edit = false) ∧
    (let s := { s0 with blinkCnt := 159, edit := true }; 160 ≤ s.blinkCnt + 1 ∧ s.cursorEnabled = true) ∧
    (let s := { s0 with blinkCnt := 319, cursorEnabled := false }; 320 ≤ s.blinkCnt + 1 ∧ s.cursorEnabled = false) ∧
    (let s := { s0 with flashCnt := 48 }; s.flashCnt + 1 < s.params.flashPeriod) ∧
    (let s := { s0 with flashCnt := 49 }; s.params.flashPeriod ≤ s.flashCnt + 1) := by decide

theorem test_witness_TwoBlinkPeriods :
    let s := { s0 with blinkCnt := 319 }
    idle s ∧ s.cursorEnabled = true ∧ s.blinkCnt < blinkThreshold s := by decide

theorem test_witness_Ticks :
    (let s := queued []; draining s ∧ s.queue.count = 0) ∧
    (let s := { s0 with agents := { s0.agents with sched := [.tick, .vsync] } };
      s.scr.mode ≠ .noMode ∧ s.agents.sched = .tick :: [.vsync] ∧ s.agents.consumer = .idle) ∧
    (let s := { framing 65 with agents := { (framing 65).agents with sched := [.tick] } };
      s.scr.mode ≠ .noMode ∧ s.agents.sched = .tick :: [] ∧ s.agents.consumer ≠ .idle) ∧
    { s0 with scr := { s0.scr with mode := .noMode } }.scr.mode = .noMode ∧ idle s0 := by decide

theorem test_witness_Vsync :
    s0.vsync = false ∧
    (let s := { s0 with vsync := true, agents := { s0.agents with waiters := 1 } };
      s.vsync = true ∧ 0 < s.agents.waiters ∧ s.agents.sched = []) ∧
    { s0.agents with sched := [.waiter] }.sched = .waiter :: [] := by decide

theorem test_witness_Queries :
    Query.editCursor ≠ .charAtText ∧ Query.editCursor ≠ .charAtEdit ∧
    { s0.agents with sched := [.query .charAtEdit] }.sched = .query .charAtEdit :: [] := by decide

/-- A command that leaves edit mode on, and a mode switch. -/
theorem test_witness_EditMode :
    let s := { s0 with edit := true }
    s.reinit = false ∧ s.edit = true ∧ (∃ t, exec .cr s = .next t) ∧ ∃ t, exec (.mode 0) s = .next t ∧ t.reinit = true :=
  ⟨rfl, rfl, ⟨_, rfl⟩, ⟨_, rfl, rfl⟩⟩

theorem test_witness_HistoryAndBinding :
    s0.reinit = false ∧ (∃ t, exec .gright s0 = .next t) ∧ (∃ t, exec (.plot 4 1 2) s0 = .next t) ∧
    ∃ t, exec .vdu5 s0 = .next t := ⟨rfl, ⟨_, rfl⟩, ⟨_, rfl⟩, ⟨_, rfl⟩⟩

theorem test_witness_NoCommandTouches :
    (∃ t, exec (.mode 9) s0 = .next t) ∧ ∃ t, exec .left s0 = .next t := ⟨⟨_, rfl⟩, ⟨_, rfl⟩⟩

theorem test_witness_TraceGrows : ∃ t, step (framing 12) = .next t := ⟨_, rfl⟩

theorem test_witness_TextCommandsIgnore :
    Instr.left ∈ [Instr.left, .right, .down, .up, .cls, .cr, .home, .del] ∧ s0.vdu5 = false ∧
    (∃ t, exec .left s0 = .next t) ∧ (∃ t, exec (.twindow 0 24 39 1) s0 = .next t) ∧
    ∃ t, exec (.print 65) s0 = .next t := ⟨by decide, rfl, ⟨_, rfl⟩, ⟨_, rfl⟩, ⟨_, rfl⟩⟩

/-- A handler that completes with the flashing cursor shown before it, one that is refused, and one that faults. -/
theorem test_witness_HandlersRun :
    (let s := { s0 with fcVisible := true }
      ∃ t, exec .cr { s with fcVisible := false, trace := s.trace ++ [.request (.smXorCell (flashRect s))] ++ [] } =
        .next t) ∧
    exec (.mode 0) (onFont 0 8 vga) = .refused .badMetrics ∧
    exec (.mode 9) { s0 with queue := { s0.queue with w := 32 } } = .fault (.queueIndex 32) :=
  ⟨⟨_, rfl⟩, rfl, rfl⟩

/-- The reset memory has the canonical form. -/
theorem test_reset_memory_wf : Memory.wf (slotFill State.reset.params) State.reset.queue.buf := by decide

end Sys2Proof.Tests
end

-- ==== Proofs of the encoding family (30_encoding.md) ====
section
namespace Sys2Proof.Proofs.Encoding

open Sys2Proof

/-- Bytes enough for the opcode's arguments are a command, with no condition on the argument values (R90, R91). -/
theorem decode_cons_of_le (v : Bool) {op : Byte} {tail : List Byte} (h : arglen op ≤ tail.length) :
    decode v (op :: tail) =
      .ok (decodeHandler (handlerFor v op) (op :: tail.take (arglen op))) (tail.drop (arglen op)) := by
  have hdecode := decode_of_args v op (tail.take (arglen op)) (tail.drop (arglen op)) (List.length_take_of_le h)
  rwa [List.cons_append, List.take_append_drop] at hdecode

/-- A decoded command took its opcode byte and `arglen` bytes more off the front (R91). -/
theorem eq_cons_of_decode_ok {v : Bool} {bs : List Byte} {i : Instr} {rest : List Byte} (h : decode v bs = .ok i rest) :
    ∃ op tail, bs = op :: tail ∧ arglen op ≤ tail.length ∧ rest = tail.drop (arglen op) := by
  cases bs with
  | nil => cases h
  | cons op tail =>
    obtain ⟨enough, hrest, -⟩ := decode_cons_ok h
    exact ⟨op, tail, rfl, enough, hrest⟩

/-- Settles O3: what a decoded command took off the front, and conversely that enough bytes always decode. -/
theorem decoderRejectsOnlyShortInput : Obligations.DecoderRejectsOnlyShortInput := by
  intro v bs
  refine ⟨⟨?accepted_is_long_enough, ?long_enough_is_accepted⟩, ?length_of_the_command⟩
  case accepted_is_long_enough =>
    rintro ⟨i, rest, h⟩
    obtain ⟨op, tail, hbs, enough, -⟩ := eq_cons_of_decode_ok h
    exact ⟨op, tail, hbs, enough⟩
  case long_enough_is_accepted =>
    rintro ⟨op, tail, rfl, enough⟩
    exact ⟨_, _, decode_cons_of_le v enough⟩
  case length_of_the_command =>
    intro i rest h
    obtain ⟨op, tail, rfl, -, rfl⟩ := eq_cons_of_decode_ok h
    rw [argByte_zero, Nat.add_comm, List.drop_succ_cons]

end Sys2Proof.Proofs.Encoding
end

-- ==== Proofs of the framer and dispatch family (40_framer_dispatch.md) ====
section
namespace Sys2Proof.Proofs.Dispatch

open Sys2Proof Sys2Proof.Machine

/-- VDU 5 and VDU 4 are one operation, the write of a binding (R106, R107). -/
theorem exec_bindingCommand (v : Bool) (s : State) : exec (if v then .vdu5 else .vdu4) s = .next (bindTo v s) := by
  cases v
  case false => rfl
  case true => rfl

/-- The entries and `vdu5` are written together, so they agree afterwards, whatever they were before (R25). -/
theorem bindingOk_bindTo (v : Bool) (s : State) : bindingOk (bindTo v s) := rfl

@[simp] theorem bindTo_bindTo (v w : Bool) (s : State) : bindTo v (bindTo w s) = bindTo v s := rfl

theorem dispatchHandler_bindTo (v : Bool) (s : State) (op : Byte) :
    dispatchHandler (bindTo v s).dt op = handlerFor v op :=
  dispatchHandler_of_bindingOk (bindingOk_bindTo v s) op

/-- The stored entries are those of the nine bound opcodes only (R24), so all tables agree on the others. -/
theorem dispatchHandler_of_not_isBound {op : Byte} (h : isBound op = false) (dt : Bindings) :
    dispatchHandler dt op = fixedHandler op := by
  unfold dispatchHandler
  split
  case h_10 => rfl
  all_goals simp_all [isBound]

/-- Settles O39: both commands are `bindTo`, whose table is the binding's on every opcode and which overwrites itself. -/
theorem bindingCommandsRebindNineEntries : Obligations.BindingCommandsRebindNineEntries := by
  intro s v
  refine ⟨bindTo v s, exec_bindingCommand v s, rfl, ?bound_entries, ?other_entries, ?idempotent⟩
  case bound_entries =>
    intro op _
    exact dispatchHandler_bindTo v s op
  case other_entries =>
    intro op unbound
    rw [dispatchHandler_of_not_isBound unbound, dispatchHandler_of_not_isBound unbound]
  case idempotent =>
    rw [exec_bindingCommand, bindTo_bindTo]

end Sys2Proof.Proofs.Dispatch
end

-- ==== Proofs of the text cursor family (41_cursor.md) ====
section
namespace Sys2Proof.Proofs.TextCursor

open Sys2Proof Sys2Proof.Machine

/-! ### Meanings, in terms of the primitives (R137, R138, R141 to R143) -/

theorem exec_right (s : State) : exec .right s = .next (textRight s) := rfl

theorem exec_down (s : State) : exec .down s = .next (textDown s) := rfl

theorem exec_cr (s : State) : exec .cr s = .next (s.setTxt ⟨s.tw.l, s.txt.y⟩) := rfl

theorem exec_home (s : State) : exec .home s = .next (s.setTxt ⟨s.tw.l, s.tw.t⟩) := rfl

theorem exec_tab_of_mem {s : State} {x y : Byte} (hx : s.tw.l + x.toNat ≤ s.tw.r) (hy : s.tw.t + y.toNat ≤ s.tw.b) :
    exec (.tab x y) s = .next (s.setTxt ⟨s.tw.l + x.toNat, s.tw.t + y.toNat⟩) :=
  if_pos ⟨hx, hy⟩

/-- The operands only add to the top-left corner, so a cell is outside past the right or the bottom edge only. -/
theorem exec_tab_of_not_mem {s : State} {x y : Byte}
    (h : s.tw.r < s.tw.l + x.toNat ∨ s.tw.b < s.tw.t + y.toNat) :
    exec (.tab x y) s = .next (s.raise (.rejected .tab)) := by
  have outside : ¬ (s.tw.l + x.toNat ≤ s.tw.r ∧ s.tw.t + y.toNat ≤ s.tw.b) := by omega
  exact if_neg outside

/-! ### The branch a primitive takes (R131, R133) -/

theorem textDown_of_lt {s : State} (h : s.txt.y < s.tw.b) : textDown s = s.setTxt ⟨s.txt.x, s.txt.y + 1⟩ := by
  obtain ⟨-, moves⟩ | ⟨bottom, -⟩ := textDown_cases s
  · exact moves
  · exact absurd h bottom.not_gt

theorem textDown_of_le {s : State} (h : s.tw.b ≤ s.txt.y) :
    textDown s = s.request (.smScroll (textArea s) .up s.col.tbg) := by
  obtain ⟨above, -⟩ | ⟨-, scrolls⟩ := textDown_cases s
  · exact absurd h above.not_ge
  · exact scrolls

theorem textRight_of_lt {s : State} (h : s.txt.x < s.tw.r) : textRight s = s.setTxt ⟨s.txt.x + 1, s.txt.y⟩ := by
  obtain ⟨-, moves⟩ | ⟨edge, -⟩ := textRight_cases s
  · exact moves
  · exact absurd h edge.not_gt

theorem textRight_of_le {s : State} (h : s.tw.r ≤ s.txt.x) : textRight s = textDown (s.setTxt ⟨s.tw.l, s.txt.y⟩) := by
  obtain ⟨inner, -⟩ | ⟨-, wraps⟩ := textRight_cases s
  · exact absurd h inner.not_ge
  · exact wraps

/-! ### The obligations -/

/-- Settles O17: a wrap is `textDown` from the left column, and that write keeps the row, the window and the trace, so
both commands meet the bottom row alike. -/
theorem rightAndDownMoveOrScrollUp : Obligations.RightAndDownMoveOrScrollUp := by
  intro s scrolled
  refine ⟨?right_steps, ?right_wraps, ?right_scrolls, ?down_steps, ?down_scrolls⟩
  case right_steps =>
    intro inner
    rw [exec_right, textRight_of_lt inner]
    rfl
  case right_wraps =>
    intro edge above
    rw [exec_right, textRight_of_le edge, textDown_of_lt (by simpa using above)]
    rfl
  case right_scrolls =>
    intro edge bottom
    rw [exec_right, textRight_of_le edge, textDown_of_le (by simpa using bottom)]
    rfl
  case down_steps =>
    intro above
    rw [exec_down, textDown_of_lt above]
    rfl
  case down_scrolls =>
    intro bottom
    rw [exec_down, textDown_of_le bottom]
    rfl

/-- Settles O18: the two clauses are the two branches of the window test. -/
theorem tabMovesInsideTheWindowOnly : Obligations.TabMovesInsideTheWindowOnly := by
  intro s x y
  exact ⟨exec_tab_of_mem, exec_tab_of_not_mem⟩

/-- Settles O19: each command is one write of the text cursor (R141, R142). -/
theorem returnAndHomeMoveTheTextCursor : Obligations.ReturnAndHomeMoveTheTextCursor := by
  intro s
  exact ⟨exec_cr s, exec_home s⟩

end Sys2Proof.Proofs.TextCursor
end

-- ==== Proofs of the VDU 23 family (44_mode_ext.md) ====
section
namespace Sys2Proof.Proofs.Extended

open Sys2Proof Sys2Proof.Machine

/-- VDU 23 runs the sub-command of the kind its number has (R240). -/
theorem exec_vdu23_of_subKind {s : State} {n : Byte} {k : SubKind} (kind : subKind s.params n = some k)
    (d0 d1 d2 d3 d4 d5 d6 d7 : Byte) :
    exec (.vdu23 n d0 d1 d2 d3 d4 d5 d6 d7) s = subCommand k n d0 d1 [d0, d1, d2, d3, d4, d5, d6, d7] s := by
  change execVdu23 n d0 d1 d2 d3 d4 d5 d6 d7 s = _
  rw [execVdu23, kind]

/-- A request followed by an outcome adds those two events to the record, in that order, and nothing else. -/
theorem raise_request (s : State) (r : Request) (o : Raised) :
    (s.request r).raise o = { s with trace := s.trace ++ [.request r, .outcome o] } := by
  have recorded : ((s.request r).raise o).trace = s.trace ++ [.request r, .outcome o] := by
    rw [raise_trace, request_trace, List.append_assoc, List.singleton_append]
  rw [← recorded]
  rfl

/-- The hook gets the opcode, the number and the data, and `UnknownSub` is recorded after it (R248). -/
theorem unknownSub_eq (n : Byte) (d : List Byte) (s : State) :
    unknownSub n d s =
      { s with trace := s.trace ++ [.request (.smUnknown (23 :: n :: d)), .outcome (.unknownSub n)] } :=
  raise_request s _ _

/-- Settles O44: the kind selects `unknownSub`, whose whole effect is one request and one outcome. -/
theorem unknownSubCommandsGoToTheHook : Obligations.UnknownSubCommandsGoToTheHook := by
  intro s n d0 d1 d2 d3 d4 d5 d6 d7 kind
  rw [exec_vdu23_of_subKind kind, subCommand, unknownSub_eq]

end Sys2Proof.Proofs.Extended
end

-- ==== Proofs of the encoding family: the round trip (30_encoding.md) ====
section
namespace Sys2Proof.Proofs.RoundTrip

open Sys2Proof

/-! ### From a command to its bytes and back -/

/-- A command has as many argument bytes as its opcode takes (R80, R82). -/
theorem args_length {v : Bool} {i : Instr} (h : i.wfUnder v = true) : i.args.length = arglen i.opcode := by
  cases i
  case print c =>
    rw [wfUnder_print] at h
    exact (handler_of_printable v c h).2.symm
  all_goals rfl

/-- The handler of a command's opcode reads the command back from its bytes (R81, R84, R92). -/
theorem decodeHandler_encode {v : Bool} {i : Instr} (h : i.wfUnder v = true) :
    decodeHandler (handlerFor v i.opcode) (encode i) = i := by
  cases i
  case print c =>
    rw [wfUnder_print] at h
    rw [opcode_print, (handler_of_printable v c h).1]
    rfl
  all_goals
    cases v <;> simp_all [encode, decodeHandler, halfBytes]

/-- Settles O1: the opcode takes exactly the command's arguments off the front, and its handler reads them back. -/
theorem decodeOfEncodeIsTheCommand : Obligations.DecodeOfEncodeIsTheCommand := by
  intro v i rest wf
  have read := decode_of_args v i.opcode i.args rest (args_length wf)
  have back := decodeHandler_encode wf
  rw [encode] at back ⊢
  rw [read, back]

/-! ### From bytes to a command and back -/

theorem eq_map_argByte (as : List Byte) : as = (List.range as.length).map (argByte as) := by
  apply List.ext_getElem
  · simp
  · intro n inside _
    simp [argByte, inside]

/-- The command a handler reads keeps every byte it was given: its operands are the argument bytes in their order (R81),
and a 16-bit operand keeps both of its bytes (R84, R93). It belongs to the binding its handler was looked up under (R92). -/
theorem encode_and_wfUnder_decodeHandler (v : Bool) (op : Byte) (as : List Byte) :
    encode (decodeHandler (handlerFor v op) (op :: as)) = op :: (List.range (arglen op)).map (argByte as) ∧
    (decodeHandler (handlerFor v op) (op :: as)).wfUnder v = true := by
  obtain control | printing := opcode_cases op
  · simp only [List.mem_cons, List.not_mem_nil, or_false] at control
    rcases control with rfl | rfl | rfl | rfl | rfl | rfl | rfl | rfl | rfl | rfl | rfl | rfl | rfl | rfl | rfl | rfl |
      rfl | rfl | rfl | rfl | rfl | rfl | rfl | rfl | rfl | rfl | rfl | rfl | rfl | rfl | rfl | rfl | rfl
    all_goals
      cases v <;> simp [decodeHandler, encode, halfBytes, argHalf, List.range_succ]
  · obtain ⟨handler, noArgs⟩ := handler_of_printable v op printing
    rw [handler, noArgs]
    exact ⟨rfl, (wfUnder_print v op).trans printing⟩

/-- Settles O2: the decoded command's own bytes are the opcode and the argument bytes it was read from. -/
theorem encodeOfDecodeIsTheBytes : Obligations.EncodeOfDecodeIsTheBytes := by
  intro v bs i rest h
  cases bs with
  | nil => cases h
  | cons op tail =>
    obtain ⟨enough, rfl, rfl⟩ := decode_cons_ok h
    obtain ⟨bytes, wf⟩ := encode_and_wfUnder_decodeHandler v op (tail.take (arglen op))
    refine ⟨?_, wf⟩
    have args : tail.take (arglen op) = (List.range (arglen op)).map (argByte (tail.take (arglen op))) := by
      simpa [List.length_take_of_le enough] using eq_map_argByte (tail.take (arglen op))
    rw [bytes, ← args, List.cons_append, List.take_append_drop]

/-- Settles O4: each byte string is evaluated by the decoder. -/
theorem writtenCommandsDecode : Obligations.WrittenCommandsDecode := by
  unfold Obligations.WrittenCommandsDecode
  decide

end Sys2Proof.Proofs.RoundTrip
end

-- ==== Proofs of the queue family (20_memory.md) ====
section
namespace Sys2Proof.Proofs.Queue

open Sys2Proof Sys2Proof.Machine

/-! ### The write cursor's slot (R60, R62) -/

theorem writeCursor_lt {s : State} (ok : queueOk s) : s.queue.w < s.params.qcap := by
  obtain ⟨-, -, readCursor, -, agree⟩ := ok
  rw [agree]
  exact Nat.mod_lt _ (by omega)

/-- What an enqueue does to a queue that is not full: the byte goes to the write cursor's slot, and the count grows. -/
structure Appended (b : Byte) (s t : State) : Prop where
  params : t.params = s.params
  buf : t.queue.buf = s.queue.buf.write (slotFill s.params) s.queue.w b
  w : t.queue.w = (s.queue.w + 1) % s.params.qcap
  r : t.queue.r = s.queue.r
  count : t.queue.count = s.queue.count + 1

section
variable {b : Byte} {s t : State}

theorem slot_written (hparams : t.params = s.params)
    (hbuf : t.queue.buf = s.queue.buf.write (slotFill s.params) s.queue.w b) (ok : queueOk s) :
    t.slot s.queue.w = b := by
  obtain ⟨canonical, -⟩ := ok
  rw [State.slot, hparams, hbuf]
  exact Memory.read_write_same _ b canonical

theorem slot_kept (hparams : t.params = s.params)
    (hbuf : t.queue.buf = s.queue.buf.write (slotFill s.params) s.queue.w b) {a : Nat} (other : a ≠ s.queue.w) :
    t.slot a = s.slot a := by
  rw [State.slot, hparams, hbuf]
  exact Memory.read_write_other _ _ b other

/-- The unread slots of a queue with room are not the write cursor's, so the new byte is the only change (R62). -/
theorem Appended.unread_eq (h : Appended b s t) (ok : queueOk s) (room : s.queue.count < s.params.qcap) :
    unread t = unread s ++ [b] := by
  have written := slot_written h.params h.buf ok
  obtain ⟨-, -, readCursor, -, agree⟩ := ok
  have oldSlots : ∀ i ∈ List.range s.queue.count,
      t.slot ((s.queue.r + i) % s.params.qcap) = s.slot ((s.queue.r + i) % s.params.qcap) := by
    intro i hi
    rw [List.mem_range] at hi
    refine slot_kept h.params h.buf ?_
    rw [agree, mod_add_of_lt readCursor (by omega), mod_add_of_lt readCursor room.le]
    split <;> split <;> omega
  rw [unread, h.count, h.r, h.params, List.range_succ, List.map_append, List.map_congr_left oldSlots, List.map_singleton,
    ← agree, written]
  rfl

theorem Appended.queueOk (h : Appended b s t) (ok : queueOk s) (room : s.queue.count < s.params.qcap) : queueOk t := by
  have writeCursor := writeCursor_lt ok
  obtain ⟨canonical, slots, readCursor, -, agree⟩ := ok
  refine ⟨?canonical, ?slots, ?readCursor, ?count, ?agree⟩
  case canonical =>
    rw [h.params, h.buf]
    exact Memory.wf_write _ _ canonical
  case slots =>
    rw [h.params, h.buf]
    intro e he
    obtain ⟨rfl, -⟩ | old := Memory.mem_write he
    · exact writeCursor
    · exact slots e old
  case readCursor =>
    rw [h.r, h.params]
    exact readCursor
  case count =>
    rw [h.count, h.params]
    exact room
  case agree => rw [h.w, h.r, h.count, h.params, agree, Nat.mod_add_mod, Nat.add_assoc]

end

/-! ### Enqueue -/

/-- A full queue loses its oldest byte first: an enqueue is then the append to the queue popped once (R62). -/
theorem enqueue_full {s : State} (b : Byte) (ok : queueOk s) (full : s.queue.count = s.params.qcap) :
    ∃ t, enqueue b s = .next t ∧ t = { s with queue := t.queue, trace := s.trace ++ [.outcome (.queueOverflow b)] } ∧
      Appended b { s with queue := popped s 1 } t := by
  have room := writeCursor_lt ok
  obtain ⟨-, -, h⟩ | ⟨-, notFull, -⟩ | ⟨bad, -⟩ := enqueue_cases b s
  · refine ⟨_, h, rfl, ⟨rfl, rfl, rfl, rfl, ?_⟩⟩
    change s.queue.count = s.queue.count - 1 + 1
    omega
  · exact absurd full notFull
  · exact absurd room bad

theorem enqueue_notFull {s : State} (b : Byte) (ok : queueOk s) (notFull : s.queue.count ≠ s.params.qcap) :
    ∃ t, enqueue b s = .next t ∧ t = { s with queue := t.queue } ∧ Appended b s t := by
  have room := writeCursor_lt ok
  obtain ⟨-, full, -⟩ | ⟨-, -, h⟩ | ⟨bad, -⟩ := enqueue_cases b s
  · exact absurd full notFull
  · exact ⟨_, h, rfl, rfl, rfl, rfl, rfl, rfl⟩
  · exact absurd room bad

theorem unread_pop (s : State) : unread { s with queue := popped s 1 } = (unread s).tail := unread_popped rfl rfl

/-- Popping the full queue makes room. -/
theorem queueOk_popped_of_full {s : State} (ok : queueOk s) (full : s.queue.count = s.params.qcap) :
    queueOk { s with queue := popped s 1 } ∧ (popped s 1).count < s.params.qcap := by
  have room := writeCursor_lt ok
  refine ⟨queueOk_popped ok (by omega) rfl rfl, ?_⟩
  change s.queue.count - 1 < s.params.qcap
  omega

/-- A turn at the front of the schedule is the next step, in the state with it taken off (log 5). -/
theorem step_of_sched {s : State} {turn : Turn} {rest : List Turn} (h : s.agents.sched = turn :: rest) :
    step s = takeTurn turn { s with agents := { s.agents with sched := rest } } := by
  simp only [step, nextTurn, h]

/-- Settles O9: below capacity the enqueue is `Appended`, at capacity it is `Appended` after a pop. -/
theorem enqueueAppendsAndDropsTheOldest : Obligations.EnqueueAppendsAndDropsTheOldest := by
  intro b s
  refine ⟨?enqueue, ?byteIn⟩
  case enqueue =>
    intro ok
    by_cases full : s.queue.count = s.params.qcap
    case pos =>
      obtain ⟨t, next, frame, appended⟩ := enqueue_full b ok full
      obtain ⟨ok', room⟩ := queueOk_popped_of_full ok full
      have count : t.queue.count = s.queue.count - 1 + 1 := appended.count
      have pos := writeCursor_lt ok
      have trace : t.trace = s.trace ++ [.outcome (.queueOverflow b)] := by rw [frame]
      refine ⟨t, next, ?_, slot_written appended.params appended.buf ok, fun a => slot_kept appended.params appended.buf,
        appended.w, fun _ => ⟨appended.r, by omega, trace, ?_⟩, absurd full, appended.queueOk ok' room⟩
      · rw [trace]
        exact frame
      · rw [appended.unread_eq ok' room, unread_pop]
    case neg =>
      obtain ⟨t, next, frame, appended⟩ := enqueue_notFull b ok full
      have room : s.queue.count < s.params.qcap := by
        obtain ⟨-, -, -, count, -⟩ := ok
        omega
      have trace : t.trace = s.trace := by rw [frame]
      refine ⟨t, next, ?_, slot_written appended.params appended.buf ok, fun a => slot_kept appended.params appended.buf,
        appended.w, fun h => absurd h full, fun _ => ⟨appended.r, appended.count, trace, appended.unread_eq ok room⟩,
        appended.queueOk ok room⟩
      rw [trace]
      exact frame
  case byteIn =>
    intro rest turn
    rw [step_of_sched turn]
    exact ⟨fun started => if_neg started, fun before => if_pos before⟩

/-! ### Pop -/

theorem pop_of_queueOk {s : State} (ok : queueOk s) :
    pop s = .byte (s.slot s.queue.r) { s with queue := popped s 1 } := by
  obtain ⟨-, -, readCursor, -⟩ := ok
  obtain ⟨-, h⟩ | ⟨bad, -⟩ := pop_cases s
  · exact h
  · exact absurd readCursor bad

theorem unread_eq_cons {s : State} (ok : queueOk s) (nonempty : 0 < s.queue.count) :
    unread s = s.slot s.queue.r :: unread { s with queue := popped s 1 } := by
  obtain ⟨-, -, readCursor, -⟩ := ok
  rw [unread_pop]
  exact List.eq_cons_of_mem_head? (unread_head readCursor nonempty)

/-- Settles O10: the pop is `popped s 1`, and the consumer's two steps are the pop and `frame`. -/
theorem popTakesTheOldestByte : Obligations.PopTakesTheOldestByte := by
  intro s ok nonempty
  refine ⟨{ s with queue := popped s 1 }, pop_of_queueOk ok, unread_eq_cons ok nonempty, rfl,
    queueOk_popped ok nonempty rfl rfl, fun atTest => ⟨?pops, ?frames⟩⟩
  case pops =>
    obtain ⟨-, -, readCursor, -⟩ := id ok
    exact consumerStep_pop ok atTest (unread_head readCursor nonempty)
  case frames =>
    rw [consumerStep_frame rfl]
    congr 1
    simp [State.setConsumer, ← atTest]

/-! ### Any number of enqueues (C2, scenario D) -/

theorem lastN_of_length_le {α : Type} {n : Nat} {xs : List α} (h : xs.length ≤ n) : lastN n xs = xs := by
  rw [lastN, Nat.sub_eq_zero_of_le h, List.drop_zero]

/-- Dropping the oldest early changes nothing: what is dropped would be dropped later. -/
theorem lastN_lastN_append {α : Type} (n : Nat) (xs ys : List α) : lastN n (lastN n xs ++ ys) = lastN n (xs ++ ys) := by
  have early : xs.length - n ≤ xs.length := Nat.sub_le _ _
  rw [lastN, lastN, lastN, ← List.drop_append_of_le_length early, List.drop_drop]
  congr 1
  simp only [List.length_drop, List.length_append]
  omega

/-- One enqueue, with its overflow outcome, if any, told by length (R62). -/
theorem enqueue_spec {s : State} (b : Byte) (ok : queueOk s) :
    ∃ t es, enqueue b s = .next t ∧ t = { s with queue := t.queue, trace := s.trace ++ es } ∧ queueOk t ∧
      unread t = lastN s.params.qcap (unread s ++ [b]) ∧ (∀ e ∈ es, e = .outcome (.queueOverflow b)) ∧
      es.length = s.queue.count + 1 - s.params.qcap := by
  have pos := writeCursor_lt ok
  by_cases full : s.queue.count = s.params.qcap
  case pos =>
    obtain ⟨t, next, frame, appended⟩ := enqueue_full b ok full
    obtain ⟨ok', room⟩ := queueOk_popped_of_full ok full
    refine ⟨t, _, next, frame, appended.queueOk ok' room, ?_, by simp, by simp; omega⟩
    rw [appended.unread_eq ok' room, unread_pop, lastN, List.length_append, unread_length, full,
      List.length_singleton, Nat.add_sub_cancel_left, List.drop_append_of_le_length (by rw [unread_length]; omega),
      List.drop_one]
  case neg =>
    obtain ⟨t, next, frame, appended⟩ := enqueue_notFull b ok full
    have room : s.queue.count < s.params.qcap := by
      obtain ⟨-, -, -, count, -⟩ := ok
      omega
    refine ⟨t, [], next, by simpa using frame, appended.queueOk ok room, ?_, by simp, by simp; omega⟩
    rw [appended.unread_eq ok room, lastN_of_length_le (by simpa using room)]

/-- Every enqueue past the capacity overflows once, and the newest bytes are kept. -/
theorem enqueueAll_spec (bs : List Byte) :
    ∀ {s : State}, queueOk s →
      ∃ t es, enqueueAll bs s = .next t ∧ t = { s with queue := t.queue, trace := s.trace ++ es } ∧ queueOk t ∧
        unread t = lastN s.params.qcap (unread s ++ bs) ∧ (∀ e ∈ es, ∃ b, e = .outcome (.queueOverflow b)) ∧
        es.length = s.queue.count + bs.length - s.params.qcap := by
  induction bs with
  | nil =>
    intro s ok
    obtain ⟨-, -, -, count, -⟩ := id ok
    refine ⟨s, [], rfl, by simp, ok, ?_, by simp, by simp; omega⟩
    rw [List.append_nil, lastN_of_length_le (by simpa using count)]
  | cons b bs ih =>
    intro s ok
    obtain ⟨u, es, next, frame, ok', unread', overflow, length⟩ := enqueue_spec b ok
    obtain ⟨t, es', next', frame', okt, unreadt, overflow', length'⟩ := ih ok'
    have params : u.params = s.params := by rw [frame]
    have trace : u.trace = s.trace ++ es := by rw [frame]
    have count : u.queue.count = min s.params.qcap (s.queue.count + 1) := by
      have := congrArg List.length unread'
      simp only [unread_length, lastN, List.length_drop, List.length_append, List.length_singleton] at this
      omega
    refine ⟨t, es ++ es', andThen_eq_next.2 ⟨u, next, next'⟩, ?_, okt, ?_, ?_, ?_⟩
    · rw [← List.append_assoc, ← trace, frame', frame]
    · rw [unreadt, params, unread', lastN_lastN_append, List.append_assoc, List.singleton_append]
    · intro e he
      obtain first | later := List.mem_append.1 he
      · exact ⟨b, overflow e first⟩
      · exact overflow' e later
    · rw [List.length_append, length, length', params, count, List.length_cons]
      obtain ⟨-, -, -, bound, -⟩ := ok
      omega

/-- Settles O11, from `enqueueAll_spec`, an induction on the list of bytes. -/
theorem newestBytesSurviveOverflow : Obligations.NewestBytesSurviveOverflow := by
  intro bs s ok
  obtain ⟨t, es, next, frame, okt, unreadt, -⟩ := enqueueAll_spec bs ok
  have trace : t.trace = s.trace ++ es := by rw [frame]
  exact ⟨t, next, by rw [trace]; exact frame, okt, unreadt⟩

end Sys2Proof.Proofs.Queue
end

-- ==== Proofs of the text cursor family: moves, printing and the edit cursor (41_cursor.md) ====
section
namespace Sys2Proof.Proofs.TextMotion

open Sys2Proof Sys2Proof.Machine Sys2Proof.Proofs.TextCursor

/-! ### What a text command is (R131 to R144) -/

/-- A text move writes the text cursor, adds to the record, and stays inside the window (R135). -/
structure TextMove (s t : State) : Prop where
  frame : onlyText s t
  grows : ∃ es, t.trace = s.trace ++ es
  stays : inside s.tw s.txt = true → inside t.tw t.txt = true

theorem TextMove.tw {s t : State} (h : TextMove s t) : t.tw = s.tw := by rw [h.frame]

theorem TextMove.trans {s t u : State} (h : TextMove s t) (h' : TextMove t u) : TextMove s u := by
  obtain ⟨es, grows⟩ := h.grows
  obtain ⟨es', grows'⟩ := h'.grows
  exact ⟨h.frame.trans h'.frame, ⟨es ++ es', by rw [grows', grows, List.append_assoc]⟩, h'.stays ∘ h.stays⟩

theorem textMove_setTxt {s : State} {p : TextPos} (stays : inside s.tw s.txt = true → inside s.tw p = true) :
    TextMove s (s.setTxt p) :=
  ⟨rfl, ⟨[], (List.append_nil _).symm⟩, stays⟩

theorem textMove_emit (s : State) (e : Event) : TextMove s (s.emit e) := ⟨rfl, ⟨[e], rfl⟩, id⟩

theorem textMove_textDown (s : State) : TextMove s (textDown s) := by
  have grows : ∃ es, (textDown s).trace = s.trace ++ es := by
    obtain ⟨-, moves⟩ | ⟨-, scrolls⟩ := textDown_cases s
    · exact ⟨[], by simp [moves]⟩
    · exact ⟨_, by rw [scrolls, request_trace]⟩
  have frame := textDown_frame s
  have window : (textDown s).tw = s.tw := by rw [frame]
  exact ⟨frame, grows, fun h => window ▸ textDown_inside h⟩

theorem textMove_textUp (s : State) : TextMove s (textUp s) := by
  have grows : ∃ es, (textUp s).trace = s.trace ++ es := by
    obtain ⟨-, moves⟩ | ⟨-, scrolls⟩ := textUp_cases s
    · exact ⟨[], by simp [moves]⟩
    · exact ⟨_, by rw [scrolls, request_trace]⟩
  have frame := textUp_frame s
  have window : (textUp s).tw = s.tw := by rw [frame]
  exact ⟨frame, grows, fun h => window ▸ textUp_inside h⟩

/-- A row's end is inside the window whenever a cell of that row is. -/
theorem inside_rowEnds {w : TextWindow} {p : TextPos} (h : inside w p = true) :
    inside w ⟨w.l, p.y⟩ = true ∧ inside w ⟨w.r, p.y⟩ = true := by
  simp only [inside_iff] at *
  omega

theorem inside_topLeft {w : TextWindow} {p : TextPos} (h : inside w p = true) : inside w ⟨w.l, w.t⟩ = true := by
  simp only [inside_iff] at *
  omega

theorem textMove_textRight (s : State) : TextMove s (textRight s) := by
  obtain ⟨inner, moves⟩ | ⟨-, wraps⟩ := textRight_cases s
  · rw [moves]
    refine textMove_setTxt fun h => ?_
    simp only [inside_iff] at *
    omega
  · rw [wraps]
    exact (textMove_setTxt fun h => (inside_rowEnds h).1).trans (textMove_textDown _)

theorem textMove_textLeft (s : State) : TextMove s (textLeft s) := by
  obtain ⟨inner, moves⟩ | ⟨-, wraps⟩ := textLeft_cases s
  · rw [moves]
    refine textMove_setTxt fun h => ?_
    simp only [inside_iff] at *
    omega
  · rw [wraps]
    exact (textMove_setTxt fun h => (inside_rowEnds h).2).trans (textMove_textUp _)

theorem textMove_clearText (s : State) : TextMove s (clearText s) :=
  (textMove_emit s _).trans (textMove_setTxt inside_topLeft)

/-- The commands that move the text cursor under the VDU 4 binding. -/
theorem exec_textMove {s : State} {i : Instr}
    (h : i ∈ [.left, .right, .down, .up, .cls, .cr, .home, .del] ∨ ∃ x y, i = .tab x y) :
    ∃ t, exec i s = .next t ∧ TextMove s t := by
  obtain plain | ⟨x, y, rfl⟩ := h
  · simp only [List.mem_cons, List.not_mem_nil, or_false] at plain
    obtain rfl | rfl | rfl | rfl | rfl | rfl | rfl | rfl := plain
    · exact ⟨_, rfl, textMove_textLeft s⟩
    · exact ⟨_, rfl, textMove_textRight s⟩
    · exact ⟨_, rfl, textMove_textDown s⟩
    · exact ⟨_, rfl, textMove_textUp s⟩
    · exact ⟨_, rfl, textMove_clearText s⟩
    · exact ⟨_, rfl, textMove_setTxt fun h => (inside_rowEnds h).1⟩
    · exact ⟨_, rfl, textMove_setTxt inside_topLeft⟩
    · exact ⟨_, rfl, (textMove_textLeft s).trans (textMove_emit _ _)⟩
  · by_cases hit : s.tw.l + x.toNat ≤ s.tw.r ∧ s.tw.t + y.toNat ≤ s.tw.b
    · refine ⟨_, exec_tab_of_mem hit.1 hit.2, textMove_setTxt fun h => ?_⟩
      simp only [inside_iff] at *
      omega
    · exact ⟨_, exec_tab_of_not_mem (by omega), textMove_emit s _⟩

/-- Settles O21: each of the nine commands is a text move. -/
theorem textCommandsStayInTheWindow : Obligations.TextCommandsStayInTheWindow := by
  intro s i command _ _ home
  obtain ⟨t, next, move⟩ := exec_textMove (s := s) command
  exact ⟨t, next, move.frame, move.stays home⟩

/-! ### Left and up (R132, R134), clear and delete (R140, R144) -/

theorem exec_left (s : State) : exec .left s = .next (textLeft s) := rfl

theorem exec_up (s : State) : exec .up s = .next (textUp s) := rfl

theorem textUp_of_lt {s : State} (h : s.tw.t < s.txt.y) : textUp s = s.setTxt ⟨s.txt.x, s.txt.y - 1⟩ := if_pos h

theorem textUp_of_le {s : State} (h : s.txt.y ≤ s.tw.t) :
    textUp s = s.request (.smScroll (textArea s) .down s.col.tbg) := if_neg h.not_gt

theorem textLeft_of_lt {s : State} (h : s.tw.l < s.txt.x) : textLeft s = s.setTxt ⟨s.txt.x - 1, s.txt.y⟩ := if_pos h

theorem textLeft_of_le {s : State} (h : s.txt.x ≤ s.tw.l) : textLeft s = textUp (s.setTxt ⟨s.tw.r, s.txt.y⟩) :=
  if_neg h.not_gt

/-- Settles O16: a wrap is `textUp` from the right column, so both commands meet the top row alike. -/
theorem leftAndUpMoveOrScrollDown : Obligations.LeftAndUpMoveOrScrollDown := by
  intro s scrolled
  refine ⟨?left_steps, ?left_wraps, ?left_scrolls, ?up_steps, ?up_scrolls⟩
  case left_steps =>
    intro inner
    rw [exec_left, textLeft_of_lt inner]
    rfl
  case left_wraps =>
    intro edge below
    rw [exec_left, textLeft_of_le edge, textUp_of_lt (by simpa using below)]
    rfl
  case left_scrolls =>
    intro edge top
    rw [exec_left, textLeft_of_le edge, textUp_of_le (by simpa using top)]
    rfl
  case up_steps =>
    intro below
    rw [exec_up, textUp_of_lt below]
    rfl
  case up_scrolls =>
    intro top
    rw [exec_up, textUp_of_le top]
    rfl

/-- Settles O20: CLS is one request and one cursor write; DEL is LEFT and then one request, and LEFT keeps the colours. -/
theorem clearAndDeleteWriteTheWindow : Obligations.ClearAndDeleteWriteTheWindow := by
  intro s
  refine ⟨rfl, textLeft s, rfl, ?_⟩
  have colours : (textLeft s).col = s.col := by rw [textLeft_frame s]
  rw [← colours]
  rfl

/-! ### Printing (R150) -/

theorem exec_print (c : Byte) (s : State) : exec (.print c) s = .next (paintAt c s) := rfl

theorem paintAt_text {s : State} (c : Byte) (text : s.vdu5 = false) :
    paintAt c s = textRight (s.request (.smWriteChar c s.txt.x s.txt.y s.col.tfg s.col.tbg)) := by
  rw [paintAt, text, if_neg Bool.false_ne_true]

theorem paintAt_graphics {s : State} (c : Byte) (graphics : s.vdu5 = true) :
    paintAt c s = gfxRight (s.request
      (.dpPaintGlyph c (intX s s.g0.x) (intY s s.g0.y) s.col.gfg s.col.gfgAct (gclip s))) := by
  rw [paintAt, graphics, if_pos rfl]

/-- Settles O26: `paintAt` is a request followed by the primitive that VDU 9 of the binding runs. -/
theorem printPaintsThenAdvances : Obligations.PrintPaintsThenAdvances := by
  intro s c
  refine ⟨fun text => ⟨?_, _, exec_print c s, ?_⟩, fun graphics => ⟨?_, _, exec_print c s, ?_⟩⟩
  · rw [exec_print, paintAt_text c text]
    rfl
  · obtain ⟨-, frame⟩ | ⟨other, -⟩ := paintAt_frame c s
    · exact frame
    · simp [text] at other
  · rw [exec_print, paintAt_graphics c graphics]
    rfl
  · obtain ⟨other, -⟩ | ⟨-, frame⟩ := paintAt_frame c s
    · simp [graphics] at other
    · exact frame

/-! ### VDU 27 (R156 to R158) -/

theorem exec_esc_of_editDir {s : State} {e : Byte} {d : EditDir} (h : editDir s.params.editKeys e = some d) :
    exec (.esc e) s = .next (editKey d s) := by
  change execEsc e s = _
  rw [execEsc, h]

theorem exec_esc_of_none {s : State} {e : Byte} (h : editDir s.params.editKeys e = none) :
    exec (.esc e) s = .next (paintAt e s) := by
  change execEsc e s = _
  rw [execEsc, h]

theorem editDir_eq_none {k : EditKeys} {e : Byte} (left : e ≠ k.left) (right : e ≠ k.right) (down : e ≠ k.down)
    (up : e ≠ k.up) : editDir k e = none := by
  simp only [editDir, left, right, down, up, if_false]

/-- Settles O27: a byte that is no edit key takes the branch that PRINT is. -/
theorem escapedByteIsPaintedUnlessEditKey : Obligations.EscapedByteIsPaintedUnlessEditKey := by
  intro s e left right down up
  have literal := exec_esc_of_none (editDir_eq_none left right down up)
  exact ⟨literal, _, literal⟩

/-- Four distinct keys each have their own direction, whatever the order they are tested in (R156). -/
theorem editDir_of_nodup {k : EditKeys} (distinct : [k.left, k.right, k.down, k.up].Nodup) :
    editDir k k.left = some .left ∧ editDir k k.right = some .right ∧ editDir k k.down = some .down ∧
    editDir k k.up = some .up := by
  simp only [List.nodup_cons, List.mem_cons, List.not_mem_nil, or_false, not_or, ← ne_eq] at distinct
  obtain ⟨⟨lr, ld, lu⟩, ⟨rd, ru⟩, du, -⟩ := distinct
  simp [editDir, lr.symm, ld.symm, lu.symm, rd.symm, ru.symm, du.symm]

/-- The edit cursor starts at the text cursor (R157). -/
theorem enterEdit_eq (s : State) : enterEdit s = { s with edit := true, ed := if s.edit then s.ed else s.txt } := by
  obtain ⟨on, h⟩ | ⟨off, h⟩ := enterEdit_cases s
  · rw [h, if_pos on]
    cases s
    cases on
    rfl
  · rw [h, off, if_neg Bool.false_ne_true]

/-- A move right is one column, or the left column of the row that a move down gives (R158). -/
theorem editMove_right (s : State) : editMove .right s =
    s.setEd (if s.ed.x < s.tw.r then ⟨s.ed.x + 1, s.ed.y⟩ else ⟨s.tw.l, (editDown s).ed.y⟩) := by
  rw [editMove]
  split <;> rfl

/-- A move left is one column, or the right column of the row that a move up gives (R158). -/
theorem editMove_left (s : State) : editMove .left s =
    s.setEd (if s.tw.l < s.ed.x then ⟨s.ed.x - 1, s.ed.y⟩ else ⟨s.tw.r, (editUp s).ed.y⟩) := by
  rw [editMove]
  split <;> rfl

/-- Settles O28: the key's direction, the entry into edit mode, and then one `editMove`, which wraps at either edge. -/
theorem editKeysMoveTheEditCursor : Obligations.EditKeysMoveTheEditCursor := by
  intro s k p down up distinct
  obtain ⟨leftKey, rightKey, downKey, upKey⟩ := editDir_of_nodup distinct
  refine ⟨?right, ?left, ?down, ?up⟩
  case right =>
    rw [exec_esc_of_editDir rightKey, editKey, enterEdit_eq, editMove_right]
    rfl
  case left =>
    rw [exec_esc_of_editDir leftKey, editKey, enterEdit_eq, editMove_left]
    rfl
  case down =>
    rw [exec_esc_of_editDir downKey, editKey, enterEdit_eq]
    rfl
  case up =>
    rw [exec_esc_of_editDir upKey, editKey, enterEdit_eq]
    rfl

end Sys2Proof.Proofs.TextMotion
end

-- ==== Proofs of the graphics cursor family (41_cursor.md) ====
section
namespace Sys2Proof.Proofs.GraphicsMotion

open Sys2Proof Sys2Proof.Machine

/-! ### Meanings, in terms of the primitives (R146, R147) -/

theorem exec_gright (s : State) : exec .gright s = .next (gfxRight s) := rfl

theorem exec_gleft (s : State) : exec .gleft s = .next (gfxLeft s) := rfl

/-! ### The branch a primitive takes (R145) -/

theorem gfxRight_of_lt {s : State} (h : s.gw.r.toInt < (s.g0.x + stepX s + stepX s - 1).toInt) :
    gfxRight s = s.setG0 ⟨s.gw.l, (gfxDown s).g0.y⟩ := if_pos h

theorem gfxRight_of_le {s : State} (h : (s.g0.x + stepX s + stepX s - 1).toInt ≤ s.gw.r.toInt) :
    gfxRight s = s.setG0 ⟨s.g0.x + stepX s, s.g0.y⟩ := if_neg h.not_gt

theorem gfxLeft_of_lt {s : State} (h : (s.g0.x - stepX s).toInt < s.gw.l.toInt) :
    gfxLeft s = s.setG0 ⟨s.gw.r - stepX s + 1, (gfxUp s).g0.y⟩ := if_pos h

theorem gfxLeft_of_le {s : State} (h : s.gw.l.toInt ≤ (s.g0.x - stepX s).toInt) :
    gfxLeft s = s.setG0 ⟨s.g0.x - stepX s, s.g0.y⟩ := if_neg h.not_gt

/-- Settles O22: each clause is one branch of its primitive; a wrap takes the row that the vertical motion gives. -/
theorem graphicsMotionFollowsTheStep : Obligations.GraphicsMotionFollowsTheStep := by
  intro s dx dy down up
  refine ⟨rfl, rfl, ?right_wraps, ?right_steps, ?left_wraps, ?left_steps⟩
  case right_wraps =>
    intro wide
    rw [exec_gright, gfxRight_of_lt wide]
    rfl
  case right_steps =>
    intro fits
    rw [exec_gright, gfxRight_of_le fits]
    rfl
  case left_wraps =>
    intro wide
    rw [exec_gleft, gfxLeft_of_lt wide]
    rfl
  case left_steps =>
    intro fits
    rw [exec_gleft, gfxLeft_of_le fits]
    rfl

/-- Settles O23: the clears, returns and homes are one request, one write, or both; GDEL is GLEFT, which writes the current
point only, and then one request. -/
theorem graphicsClearHomeAndDelete : Obligations.GraphicsClearHomeAndDelete := by
  intro s dx dy clip cleared
  refine ⟨rfl, rfl, rfl, rfl, gfxLeft s, rfl, ?_⟩
  change execGdel s = _
  rw [execGdel, gfxLeft_frame s]
  rfl

theorem exec_gtab (x y : Byte) (s : State) :
    exec (.gtab x y) s =
      let nx := s.gw.l + BitVec.ofNat 32 x.toNat * stepX s
      let ny := s.gw.t - BitVec.ofNat 32 y.toNat * stepY s
      if (nx + stepX s - 1).toInt ≤ s.gw.r.toInt ∧ s.gw.b.toInt ≤ (ny - stepY s + 1).toInt then .next (s.setG0 ⟨nx, ny⟩)
      else .next (s.raise (.rejected .tab)) := by
  rw [BitVec.ofNat_toNat, BitVec.ofNat_toNat]
  rfl

/-- Settles O24: the two clauses are the two branches of the test of the cell. -/
theorem graphicsTabMovesWhenTheCellFits : Obligations.GraphicsTabMovesWhenTheCellFits := by
  intro s x y dx dy nx ny
  rw [exec_gtab]
  refine ⟨fun right bottom => if_pos ⟨right, bottom⟩, fun outside => if_neg ?_⟩
  rintro ⟨right, bottom⟩
  exact outside.elim right.not_gt bottom.not_gt

/-! ### Sums that do not wrap (R183)

Each lemma takes a sum as it stands in R145; only the whole sum has to be in range, since an overflow on the way to it is
undone modulo 2^32. -/

theorem toInt_one_word : (1 : Word).toInt = 1 := by decide

theorem toInt_add_of_range {a b : Word} (lower : -2 ^ 31 ≤ a.toInt + b.toInt) (upper : a.toInt + b.toInt < 2 ^ 31) :
    (a + b).toInt = a.toInt + b.toInt := by
  obtain ⟨k, sum⟩ := toInt_add_word a b
  have range := toInt_range_word (a + b)
  omega

theorem toInt_sub_of_range {a b : Word} (lower : -2 ^ 31 ≤ a.toInt - b.toInt) (upper : a.toInt - b.toInt < 2 ^ 31) :
    (a - b).toInt = a.toInt - b.toInt := by
  obtain ⟨k, difference⟩ := toInt_sub_word a b
  have range := toInt_range_word (a - b)
  omega

theorem toInt_add_sub_one_of_range {a b : Word} (lower : -2 ^ 31 ≤ a.toInt + b.toInt - 1)
    (upper : a.toInt + b.toInt - 1 < 2 ^ 31) : (a + b - 1).toInt = a.toInt + b.toInt - 1 := by
  obtain ⟨k, sum⟩ := toInt_add_word a b
  obtain ⟨k', difference⟩ := toInt_sub_word (a + b) 1
  have range := toInt_range_word (a + b - 1)
  have one := toInt_one_word
  omega

theorem toInt_sub_add_one_of_range {a b : Word} (lower : -2 ^ 31 ≤ a.toInt - b.toInt + 1)
    (upper : a.toInt - b.toInt + 1 < 2 ^ 31) : (a - b + 1).toInt = a.toInt - b.toInt + 1 := by
  obtain ⟨k, difference⟩ := toInt_sub_word a b
  obtain ⟨k', sum⟩ := toInt_add_word (a - b) 1
  have range := toInt_range_word (a - b + 1)
  have one := toInt_one_word
  omega

/-! ### The cell stays inside (the spec's decision D14) -/

/-- A cell of size `d` fits between the edges `lo` and `hi`, which are far enough from the ends of the range. -/
structure CellFits (lo hi d : Word) : Prop where
  lower : 0 ≤ lo.toInt
  upper : hi.toInt < 2 ^ 30
  step : 0 < d.toInt
  size : d.toInt ≤ hi.toInt - lo.toInt + 1

/-- The cell of size `d` whose least coordinate is `z` lies between `lo` and `hi`. -/
def CellFrom (lo hi d z : Word) : Prop := lo.toInt ≤ z.toInt ∧ z.toInt + d.toInt - 1 ≤ hi.toInt

/-- The cell of size `d` whose greatest coordinate is `z` lies between `lo` and `hi`. -/
def CellUpTo (lo hi d z : Word) : Prop := lo.toInt ≤ z.toInt - d.toInt + 1 ∧ z.toInt ≤ hi.toInt

section
variable {lo hi d z : Word}

theorem CellFits.first (h : CellFits lo hi d) : CellFrom lo hi d lo := by
  obtain ⟨-, -, -, size⟩ := h
  constructor <;> omega

theorem CellFits.last (h : CellFits lo hi d) : CellFrom lo hi d (hi - d + 1) := by
  obtain ⟨lower, upper, step, size⟩ := h
  have edge : (hi - d + 1).toInt = hi.toInt - d.toInt + 1 := toInt_sub_add_one_of_range (by omega) (by omega)
  constructor <;> omega

theorem CellFits.right (h : CellFits lo hi d) (cell : CellFrom lo hi d z) (fits : (z + d + d - 1).toInt ≤ hi.toInt) :
    CellFrom lo hi d (z + d) := by
  obtain ⟨lower, upper, step, size⟩ := h
  obtain ⟨first, last⟩ := cell
  have next : (z + d).toInt = z.toInt + d.toInt := toInt_add_of_range (by omega) (by omega)
  have edge : (z + d + d - 1).toInt = z.toInt + d.toInt + d.toInt - 1 := by
    rw [← next]
    exact toInt_add_sub_one_of_range (by omega) (by omega)
  constructor <;> omega

theorem CellFits.left (h : CellFits lo hi d) (cell : CellFrom lo hi d z) (fits : lo.toInt ≤ (z - d).toInt) :
    CellFrom lo hi d (z - d) := by
  obtain ⟨lower, upper, step, size⟩ := h
  obtain ⟨first, last⟩ := cell
  have previous : (z - d).toInt = z.toInt - d.toInt := toInt_sub_of_range (by omega) (by omega)
  constructor <;> omega

theorem CellFits.down (h : CellFits lo hi d) (cell : CellUpTo lo hi d z) :
    CellUpTo lo hi d (if (z - d - d + 1).toInt < lo.toInt then hi else z - d) := by
  obtain ⟨lower, upper, step, size⟩ := h
  obtain ⟨first, last⟩ := cell
  have next : (z - d).toInt = z.toInt - d.toInt := toInt_sub_of_range (by omega) (by omega)
  have edge : (z - d - d + 1).toInt = z.toInt - d.toInt - d.toInt + 1 := by
    rw [← next]
    exact toInt_sub_add_one_of_range (by omega) (by omega)
  split <;> constructor <;> omega

theorem CellFits.up (h : CellFits lo hi d) (cell : CellUpTo lo hi d z) :
    CellUpTo lo hi d (if hi.toInt < (z + d).toInt then lo + d - 1 else z + d) := by
  obtain ⟨lower, upper, step, size⟩ := h
  obtain ⟨first, last⟩ := cell
  have previous : (z + d).toInt = z.toInt + d.toInt := toInt_add_of_range (by omega) (by omega)
  have edge : (lo + d - 1).toInt = lo.toInt + d.toInt - 1 := toInt_add_sub_one_of_range (by omega) (by omega)
  split <;> constructor <;> omega

end

/-- Where a cell fits in both directions, the point each motion leaves (R145) keeps the cell inside. -/
theorem motion_keepsCell {s : State} {i : Instr} (motion : i ∈ [.gleft, .gright, .gdown, .gup])
    (column : CellFits s.gw.l s.gw.r (stepX s)) (row : CellFits s.gw.b s.gw.t (stepY s))
    (x : CellFrom s.gw.l s.gw.r (stepX s) s.g0.x) (y : CellUpTo s.gw.b s.gw.t (stepY s) s.g0.y) :
    ∃ p, exec i s = .next { s with g0 := p } ∧ CellFrom s.gw.l s.gw.r (stepX s) p.x ∧
      CellUpTo s.gw.b s.gw.t (stepY s) p.y := by
  obtain ⟨down, up, rightWraps, rightSteps, leftWraps, leftSteps⟩ := graphicsMotionFollowsTheStep s
  simp only [List.mem_cons, List.not_mem_nil, or_false] at motion
  obtain rfl | rfl | rfl | rfl := motion
  · obtain wide | fits := lt_or_ge (s.g0.x - stepX s).toInt s.gw.l.toInt
    · exact ⟨_, leftWraps wide, column.last, row.up y⟩
    · exact ⟨_, leftSteps fits, column.left x fits, y⟩
  · obtain wide | fits := lt_or_ge s.gw.r.toInt (s.g0.x + stepX s + stepX s - 1).toInt
    · exact ⟨_, rightWraps wide, column.first, row.down y⟩
    · exact ⟨_, rightSteps fits, column.right x fits, y⟩
  · exact ⟨_, down, x, row.down y⟩
  · exact ⟨_, up, x, row.up y⟩

/-- Settles O25, from `motion_keepsCell`. -/
theorem graphicsMotionKeepsTheCellInside : Obligations.GraphicsMotionKeepsTheCellInside := by
  intro s i motion left bottom right top stepX sizeX stepY sizeY firstX lastX firstY lastY
  obtain ⟨p, next, ⟨firstX', lastX'⟩, firstY', lastY'⟩ :=
    motion_keepsCell motion ⟨left, right, stepX, sizeX⟩ ⟨bottom, top, stepY, sizeY⟩ ⟨firstX, lastX⟩ ⟨firstY, lastY⟩
  exact ⟨_, next, rfl, firstX', lastX', firstY', lastY'⟩

end Sys2Proof.Proofs.GraphicsMotion
end

-- ==== Proofs of the windows, origin and PLOT family (42_window_graphics.md) ====
section
namespace Sys2Proof.Proofs.Windows

open Sys2Proof Sys2Proof.Machine

/-! ### The graphics window and the origin (R187, R189) -/

theorem gwValid_iff {c : Screen} {w : GfxWindow} :
    gwValid c w = true ↔ w.l.toInt < w.r.toInt ∧ w.b.toInt < w.t.toInt ∧ 0 ≤ w.l.toInt ∧
      w.r.toInt < (extWidth c).toInt ∧ 0 ≤ w.b.toInt ∧ w.t.toInt < (extHeight c).toInt := by
  simp [gwValid, and_assoc]

theorem exec_gwindow (l b r t : Half) (s : State) :
    exec (.gwindow l b r t) s =
      let w : GfxWindow := ⟨sext16 l + s.org.x, sext16 b + s.org.y, sext16 r + s.org.x, sext16 t + s.org.y⟩
      if gwValid s.scr w then .next { s with gw := w } else .next (s.raise (.rejected .gwindow)) := rfl

/-- Settles O29: `valid` is `gwValid` of the stored window, and the clauses are the two branches of its test. -/
theorem graphicsWindowStoredIffValid : Obligations.GraphicsWindowStoredIffValid := by
  intro s l b r t L B R T valid
  have test : gwValid s.scr ⟨L, B, R, T⟩ = true ↔ valid := gwValid_iff
  exact ⟨fun h => if_pos (test.2 h), fun h => if_neg (mt test.1 h)⟩

theorem toInt_sext16 (x : Half) : (sext16 x).toInt = x.toInt := BitVec.toInt_signExtend_of_le (by decide)

/-- Settles O31: sign extension keeps the signed value. -/
theorem originTakesSignedOperands : Obligations.OriginTakesSignedOperands := by
  intro s x y
  exact ⟨_, rfl, rfl, toInt_sext16 x, toInt_sext16 y⟩

/-! ### The text window (R188, R192) -/

theorem exec_twindow_of_valid {s : State} {l b r t : Byte}
    (fits : twValid s.scr ⟨l.toNat, b.toNat, r.toNat, t.toNat⟩ = true) :
    exec (.twindow l b r t) s = .next
      (let w : TextWindow := ⟨l.toNat, b.toNat, r.toNat, t.toNat⟩
       { s with
         tw := w
         txt := if inside w s.txt then s.txt else ⟨w.l, w.t⟩
         ed := if s.edit && !inside w s.ed then ⟨w.l, w.t⟩ else s.ed }) := if_pos fits

theorem exec_twindow_of_not_valid {s : State} {l b r t : Byte}
    (fits : ¬ twValid s.scr ⟨l.toNat, b.toNat, r.toNat, t.toNat⟩ = true) :
    exec (.twindow l b r t) s = .next (s.raise (.rejected .twindow)) := if_neg fits

/-- Settles O30: `fits` is `twValid` and `keeps` is `inside` of the new window. -/
theorem textWindowStoredIffItFits : Obligations.TextWindowStoredIffItFits := by
  intro s l b r t fits keeps
  have valid : twValid s.scr ⟨l.toNat, b.toNat, r.toNat, t.toNat⟩ = true ↔ fits := twValid_iff
  have kept : ∀ p, inside ⟨l.toNat, b.toNat, r.toNat, t.toNat⟩ p = true ↔ keeps p := fun p => inside_iff
  refine ⟨fun h => ⟨_, exec_twindow_of_valid (valid.2 h), rfl, ?txt_kept, ?txt_moved, ?ed_kept, ?ed_moved⟩,
    fun h => exec_twindow_of_not_valid (mt valid.1 h)⟩
  case txt_kept => exact fun h => if_pos ((kept _).2 h)
  case txt_moved => exact fun h => if_neg (mt (kept _).1 h)
  case ed_kept =>
    rintro (off | h)
    · simp [off]
    · simp [(kept _).2 h]
  case ed_moved =>
    intro on h
    have out := Bool.eq_false_iff.2 (mt (kept _).1 h)
    simp [on, out]

/-! ### PLOT (R185, R186) -/

/-- The fields of the plot code in arithmetic (30_encoding.md R86). -/
theorem plotCode_fields : ∀ k : Byte,
    plotShape k = BitVec.ofNat 5 (k.toNat / 8) ∧ plotSel k = BitVec.ofNat 2 (k.toNat % 4) := by decide

theorem exec_plot_moves {k : Byte} (code : plotSel k = 0) (x y : Half) (s : State) :
    exec (.plot k x y) s = .next (pushPoint (plotTarget k x y s) s) := by
  change execPlot k x y s = _
  rw [execPlot, code, if_pos rfl]

theorem exec_plot_draws {k : Byte} {s : State} {colour action : Byte} (code : plotSel k ≠ 0)
    (chosen : plotColour s.col (plotSel k) = (colour, action)) (x y : Half) :
    exec (.plot k x y) s = .next ((pushPoint (plotTarget k x y s) s).request
      (.dpPlot (BitVec.ofNat 5 (k.toNat / 8)) (BitVec.ofNat 2 (k.toNat % 4)) colour action
        (toInternal s (plotTarget k x y s)) (toInternal s s.g0) (toInternal s s.g1) (gclip s) s.sprSel)) := by
  obtain ⟨shape, sel⟩ := plotCode_fields k
  rw [← shape, ← sel, show colour = (plotColour s.col (plotSel k)).1 by rw [chosen],
    show action = (plotColour s.col (plotSel k)).2 by rw [chosen]]
  exact if_neg code

/-- Settles O32: bits 1:0 choose between the push alone and the push with one request, whose colour and action they
choose too. -/
theorem plotPushesThenDraws : Obligations.PlotPushesThenDraws := by
  intro s k x y p u draws
  have code : ∀ {n}, k.toNat % 4 = n → plotSel k = BitVec.ofNat 2 n := fun bits => by
    rw [(plotCode_fields k).2, bits]
  refine ⟨?moves, ?foreground, ?inverts, ?background⟩
  case moves => exact fun bits => exec_plot_moves (code bits) x y s
  case foreground => exact fun bits => exec_plot_draws (by rw [code bits]; decide) (by rw [code bits]; rfl) x y
  case inverts => exact fun bits => exec_plot_draws (by rw [code bits]; decide) (by rw [code bits]; rfl) x y
  case background => exact fun bits => exec_plot_draws (by rw [code bits]; decide) (by rw [code bits]; rfl) x y

/-! ### Default windows (R190) -/

theorem twValid_fullScreen {c : Screen} (grid : gridOk c = true) :
    twValid c ⟨0, textRows c - 1, textCols c - 1, 0⟩ = true := by
  obtain ⟨cols, rows⟩ := gridOk_iff.1 grid
  rw [twValid_iff]
  dsimp only
  omega

theorem inside_home (r b : Nat) : inside ⟨0, b, r, 0⟩ ⟨0, 0⟩ = true := by simp [inside_iff]

/-- A cell of any legal window lies in the full-screen window. -/
theorem inside_fullScreen {c : Screen} {w : TextWindow} {p : TextPos} (valid : twValid c w = true)
    (h : inside w p = true) : inside ⟨0, textRows c - 1, textCols c - 1, 0⟩ p = true := by
  rw [twValid_iff] at valid
  rw [inside_iff] at h ⊢
  dsimp only
  omega

/-- A screen of two external units each way has the full-screen graphics window (10_state.md R29). -/
theorem gwValid_fullScreen {c : Screen} (wide : 2 ≤ (extWidth c).toInt) (high : 2 ≤ (extHeight c).toInt) :
    gwValid c ⟨0, 0, extWidth c - 1, extHeight c - 1⟩ = true := by
  have last : ∀ x : Word, 2 ≤ x.toInt → (x - 1).toInt = x.toInt - 1 := by
    intro x two
    have range := toInt_range_word x
    have one := GraphicsMotion.toInt_one_word
    rw [GraphicsMotion.toInt_sub_of_range (by omega) (by omega), one]
  have zero : (0 : Word).toInt = 0 := by decide
  rw [gwValid_iff]
  dsimp only
  rw [last _ wide, last _ high, zero]
  omega

theorem textOk_defaultWindows {s : State} (h : textOk s) : textOk (defaultWindows s) := by
  obtain ⟨grid, valid, -, editing⟩ := h
  exact ⟨grid, twValid_fullScreen grid, inside_home _ _, fun on => inside_fullScreen valid (editing on)⟩

/-- Settles O33: the command is `defaultWindows`, which keeps a legal text state legal. -/
theorem defaultWindowsAreFullScreen : Obligations.DefaultWindowsAreFullScreen := by
  intro s
  exact ⟨defaultWindows s, rfl, rfl, rfl, rfl, textOk_defaultWindows⟩

/-! ### The re-clamp (R191) -/

theorem twValid_clampWindow {c : Screen} (grid : gridOk c = true) (w : TextWindow) :
    twValid c (clampWindow c w) = true := by
  obtain ⟨cols, rows⟩ := gridOk_iff.1 grid
  rw [twValid_iff]
  simp only [clampWindow]
  omega

theorem inside_clampInto {c : Screen} {w : TextWindow} (valid : twValid c w = true) (p : TextPos) :
    inside w (clampInto w p) = true := by
  obtain ⟨columns, -, rows, -⟩ := twValid_iff.1 valid
  obtain ⟨left, right⟩ := clamp_bounds (v := p.x) columns
  obtain ⟨top, bottom⟩ := clamp_bounds (v := p.y) rows
  exact inside_iff.2 ⟨left, right, top, bottom⟩

theorem clampWindow_of_twValid {c : Screen} {w : TextWindow} (valid : twValid c w = true) : clampWindow c w = w := by
  obtain ⟨columns, right, rows, bottom⟩ := twValid_iff.1 valid
  have hr : min w.r (textCols c - 1) = w.r := by omega
  have hb : min w.b (textRows c - 1) = w.b := by omega
  rw [clampWindow, hr, hb, Nat.min_eq_left columns, Nat.min_eq_left rows]

theorem clampInto_of_inside {w : TextWindow} {p : TextPos} (h : inside w p = true) : clampInto w p = p := by
  obtain ⟨left, right, top, bottom⟩ := inside_iff.1 h
  rw [clampInto, clamp, clamp, Nat.max_eq_left left, Nat.min_eq_left right, Nat.max_eq_left top, Nat.min_eq_left bottom]

/-- After a re-clamp the text state is legal on any grid, the edit cursor included. -/
theorem textOk_reclampText {s : State} (grid : gridOk s.scr = true) :
    textOk (reclampText s) ∧ inside (reclampText s).tw (reclampText s).ed = true := by
  have valid := twValid_clampWindow grid s.tw
  exact ⟨⟨grid, valid, inside_clampInto valid _, fun _ => inside_clampInto valid _⟩, inside_clampInto valid _⟩

/-- Settles O34: clamping lands inside, and clamping what is inside already moves nothing. -/
theorem reclampGivesLegalTextState : Obligations.ReclampGivesLegalTextState := by
  intro s grid
  obtain ⟨⟨-, valid, txt, -⟩, ed⟩ := textOk_reclampText grid
  refine ⟨valid, txt, ed, fun validBefore txtBefore edBefore => ?_⟩
  rw [reclampText, clampWindow_of_twValid validBefore]
  rw [clampInto_of_inside txtBefore, clampInto_of_inside edBefore]

end Sys2Proof.Proofs.Windows
end

-- ==== Proofs of the colour family (43_colour.md) ====
section
namespace Sys2Proof.Proofs.Colours

open Sys2Proof Sys2Proof.Machine

/-! ### The colour byte (R211, R212; 30_encoding.md R85) -/

theorem selectsBackground_of_lt {c : Byte} (h : c.toNat < 128) : selectsBackground c = false := by
  rw [selectsBackground_eq, decide_eq_false (by omega)]

theorem selectsBackground_of_le {c : Byte} (h : 128 ≤ c.toNat) : selectsBackground c = true := by
  rw [selectsBackground_eq, decide_eq_true h]

theorem exec_colour (c : Byte) (s : State) : exec (.colour c) s = .next
    (if selectsBackground c then { s with col := { s.col with tbg := withIndex s.col.tbg c } }
     else { s with col := { s.col with tfg := withIndex s.col.tfg c } }) := by
  change execColour c s = _
  rw [execColour]
  split <;> rfl

theorem exec_gcol (k c : Byte) (s : State) : exec (.gcol k c) s = .next
    (if selectsBackground c then { s with col := { s.col with gbg := withIndex s.col.gbg c, gbgAct := k } }
     else { s with col := { s.col with gfg := withIndex s.col.gfg c, gfgAct := k } }) := by
  change execGcol k c s = _
  rw [execGcol]
  split <;> rfl

/-- Settles O35: bit 7 chooses the register, and `withIndex` writes its low six bits only. -/
theorem colourWritesOneIndex : Obligations.ColourWritesOneIndex := by
  intro s c
  refine ⟨_, exec_colour c s, fun low => ?foreground, fun high => ?background⟩
  case foreground =>
    rw [selectsBackground_of_lt low]
    exact ⟨rfl, withIndex_bits _ _⟩
  case background =>
    rw [selectsBackground_of_le high]
    exact ⟨rfl, withIndex_bits _ _⟩

/-- Settles O36: as for VDU 17, with the action stored beside the index. -/
theorem graphicsColourWritesIndexAndAction : Obligations.GraphicsColourWritesIndexAndAction := by
  intro s k c
  refine ⟨_, exec_gcol k c s, fun low => ?foreground, fun high => ?background⟩
  case foreground =>
    rw [selectsBackground_of_lt low]
    exact ⟨rfl, withIndex_bits _ _⟩
  case background =>
    rw [selectsBackground_of_le high]
    exact ⟨rfl, withIndex_bits _ _⟩

/-! ### The palette (R213, R214) -/

theorem exec_palette (l p r g b : Byte) (s : State) :
    exec (.palette l p r g b) s =
      .next (s.request (.smSetColour l (physColour p r g b).1 (physColour p r g b).2.1 (physColour p r g b).2.2)) := rfl

theorem physColour_grey (r g b : Byte) : physColour 8 r g b = (63, 63, 63) := rfl

/-- Below 16 and not 8, bits 0 to 2 are the channels and bit 3 their intensity. -/
theorem physColour_of_lt (p r g b : Byte) (h : p.toNat < 16) (notGrey : p.toNat ≠ 8) :
    physColour p r g b =
      let i : Byte := if 8 ≤ p.toNat then 255 else 127
      (if p.toNat % 2 = 1 then i else 0, if p.toNat / 2 % 2 = 1 then i else 0, if p.toNat / 4 % 2 = 1 then i else 0) := by
  have channels : ∀ p : Byte, p.toNat < 16 → p.getLsbD 0 = decide (p.toNat % 2 = 1) ∧
      p.getLsbD 1 = decide (p.toNat / 2 % 2 = 1) ∧ p.getLsbD 2 = decide (p.toNat / 4 % 2 = 1) ∧
      p.getLsbD 3 = decide (8 ≤ p.toNat) := by decide
  have ne : p ≠ 8 := fun e => notGrey (e ▸ rfl)
  obtain ⟨red, green, blue, bright⟩ := channels p h
  simp only [physColour, h, ne, red, green, blue, bright, decide_eq_true_eq, if_true, if_false]
  rfl

theorem physColour_of_le (p r g b : Byte) (h : 16 ≤ p.toNat) : physColour p r g b = (r, g, b) := if_neg h.not_gt

/-- Settles O37: the request carries `physColour`, whose three ranges are the three clauses. -/
theorem paletteDerivesThePhysicalColour : Obligations.PaletteDerivesThePhysicalColour := by
  intro s l p r g b sets i
  rw [exec_palette]
  refine ⟨fun grey => ?_, fun low notGrey => ?_, fun high => ?_⟩
  · rw [show p = 8 from BitVec.eq_of_toNat_eq grey, physColour_grey]
    rfl
  · rw [physColour_of_lt p r g b low notGrey]
    rfl
  · rw [physColour_of_le p r g b high]
    rfl

/-! ### Defaults (R215, R216) -/

/-- Settles O38: the mode's defaults are masked to their index bits, so the tint is 0. -/
theorem defaultColoursAreRestored : Obligations.DefaultColoursAreRestored := by
  intro s
  exact ⟨colourDefaults s, rfl, rfl, rfl, rfl, and_indexMask _, and_indexMask _, and_indexMask _, and_indexMask _⟩

end Sys2Proof.Proofs.Colours
end

-- ==== Proofs of the mode switch family (44_mode_ext.md R232 to R236; 70_reset_and_hazards.md) ====
section
namespace Sys2Proof.Proofs.ModeSwitch

open Sys2Proof Sys2Proof.Machine

/-! ### The state a mode switch ends in (R234, R236) -/

/-- The transactions of steps (a) to (c): a remap where the mode changes or is custom, and the pixel reset. -/
theorem beginSwitch_trace (m : ModeId) (p : Option (List Byte)) (s : State) :
    (beginSwitch m p s).trace =
      s.trace ++ (if m ≠ .custom ∧ s.scr.mode = m then [] else [.request (.smInit m p)]) ++ [.request .smResetPixels] := by
  have negated : (m = .custom ∨ m ≠ s.scr.mode) ↔ ¬ (m ≠ .custom ∧ s.scr.mode = m) := by
    rw [not_and_or, not_not, ne_comm]
  by_cases same : m ≠ .custom ∧ s.scr.mode = m
  · simp [beginSwitch, same]
  · simp only [beginSwitch, if_pos (negated.2 same), if_neg same]
    simp

/-- The state after the geometry has been read: what `beginSwitch` left, but for the answers still to come. -/
theorem geometryAnswer_eq {m : ModeId} {p : Option (List Byte)} {s s1 : State} {g : Geometry}
    (answer : geometryAnswer m p (beginSwitch m p s) = some (g, s1)) :
    s1 = { s with
      fcVisible := false
      bcVisible := false
      collab := s1.collab
      trace := s.trace ++ (if m ≠ .custom ∧ s.scr.mode = m then [] else [.request (.smInit m p)]) ++
        [.request .smResetPixels] } := by
  obtain ⟨frame, -⟩ := geometryAnswer_frame answer
  rw [← beginSwitch_trace, frame, beginSwitch_frame]
  rfl

theorem geometryAnswer_font {m : ModeId} {p : Option (List Byte)} {s s1 : State} {g : Geometry}
    (answer : geometryAnswer m p (beginSwitch m p s) = some (g, s1)) : s1.collab.font = s.params.font := by
  obtain ⟨-, font, -⟩ := geometryAnswer_frame answer
  rw [font, beginSwitch_font]

theorem geometryAnswer_fontParams {m : ModeId} {p : Option (List Byte)} {s s1 : State} {g : Geometry}
    (answer : geometryAnswer m p (beginSwitch m p s) = some (g, s1)) :
    s1.collab.fontParams = List.replicate fontParamCount none := by
  obtain ⟨-, -, params⟩ := geometryAnswer_frame answer
  rw [params, beginSwitch_frame, defaultFont_collab]

/-- The mode switch that is not refused ends in `switched`, but for the collaborators' answers. -/
theorem finishSwitch_loadScreen {m : ModeId} {p : Option (List Byte)} {s s1 : State} {g : Geometry}
    (answer : geometryAnswer m p (beginSwitch m p s) = some (g, s1)) :
    finishSwitch (loadScreen m g s1) = { switched s m p g (defaultColours s.params m) with collab := s1.collab } := by
  have font := geometryAnswer_font answer
  rw [geometryAnswer_eq answer, finishSwitch_eq]
  simp [loadScreen, switched, font, textCols, textRows, extWidth, extHeight, toWord, indexMask, actReplace]

/-! ### What the mode switch answers (R234; 60_exceptions.md R281) -/

section
variable {m : ModeId} {p : Option (List Byte)} {s s1 : State} {g : Geometry}
  (answer : geometryAnswer m p (beginSwitch m p s) = some (g, s1))
include answer

theorem modeSwitch_badGeometry (bad : geometryOk g = false) : modeSwitch m p s = .refused .badGeometry := by
  rw [modeSwitch_of_answer answer, bad]
  rfl

theorem modeSwitch_badMetrics (good : geometryOk g = true) (bad : metricsOk s.params.font = false) :
    modeSwitch m p s = .refused .badMetrics := by
  rw [modeSwitch_of_answer answer, geometryAnswer_font answer, good, bad]
  rfl

/-- The new grid has a cell exactly when the default font's glyph fits the new screen. -/
theorem gridOk_loadScreen (metrics : metricsOk s.params.font = true) :
    gridOk (loadScreen m g s1).scr = true ↔
      s.params.font.fw.toNat ≤ g.w.toNat ∧ s.params.font.fh.toNat ≤ g.h.toNat := by
  obtain ⟨fw, fh⟩ := metrics_pos metrics
  rw [← geometryAnswer_font answer] at fw fh ⊢
  exact gridOk_iff_fits fw fh

theorem modeSwitch_glyphTooLarge (good : geometryOk g = true) (metrics : metricsOk s.params.font = true)
    (large : g.w.toNat < s.params.font.fw.toNat ∨ g.h.toNat < s.params.font.fh.toNat) :
    modeSwitch m p s = .refused .glyphTooLarge := by
  have noGrid : gridOk (loadScreen m g s1).scr = false := by
    rw [Bool.eq_false_iff, ne_eq, gridOk_loadScreen answer metrics]
    omega
  rw [modeSwitch_of_answer answer, geometryAnswer_font answer, good, metrics, noGrid]
  rfl

theorem modeSwitch_fits (good : geometryOk g = true) (metrics : metricsOk s.params.font = true)
    (wide : s.params.font.fw.toNat ≤ g.w.toNat) (high : s.params.font.fh.toNat ≤ g.h.toNat) :
    modeSwitch m p s =
      .next { switched s m p g (defaultColours s.params m) with collab := s1.collab } := by
  have grid : gridOk (loadScreen m g s1).scr = true := (gridOk_loadScreen answer metrics).2 ⟨wide, high⟩
  rw [modeSwitch_of_answer answer, geometryAnswer_font answer, good, metrics, grid, finishSwitch_loadScreen answer]
  rfl

end

/-! ### Built-in modes (R231, R232) -/

/-- A supported mode's geometry is its parameter, and no answer is used up. -/
theorem geometryAnswer_builtin {s : State} {n : Byte} {row : ModeRow} (supported : modeRow s.params n = some row)
    (p : Option (List Byte)) :
    geometryAnswer (.builtin n) p (beginSwitch (.builtin n) p s) =
      some (row.geometry, beginSwitch (.builtin n) p s) := by
  have params : (beginSwitch (.builtin n) p s).params = s.params := by rw [beginSwitch_frame]; rfl
  rw [geometryAnswer, params, supported]

theorem defaultColours_builtin {p : Params} {n : Byte} {row : ModeRow} (supported : modeRow p n = some row) :
    defaultColours p (.builtin n) = row.colours := by
  rw [defaultColours, supported]

theorem modeSwitch_builtin {s : State} {n : Byte} {row : ModeRow} (supported : modeRow s.params n = some row)
    (good : geometryOk row.geometry = true) (metrics : metricsOk s.params.font = true)
    (wide : s.params.font.fw.toNat ≤ row.geometry.w.toNat) (high : s.params.font.fh.toNat ≤ row.geometry.h.toNat) :
    modeSwitch (.builtin n) none s = .next (switched s (.builtin n) none row.geometry row.colours) := by
  rw [modeSwitch_fits (geometryAnswer_builtin supported none) good metrics wide high, defaultColours_builtin supported,
    beginSwitch_frame]
  rfl

theorem exec_mode_of_supported {s : State} {n : Byte} {row : ModeRow} (supported : modeRow s.params n = some row) :
    exec (.mode n) s = modeSwitch (.builtin n) none s := by
  change execMode n s = _
  rw [execMode, supported]

/-- Settles O41: a supported mode's geometry and colours are its parameters, so the switch is `modeSwitch_builtin`. -/
theorem supportedModeResetsTheState : Obligations.SupportedModeResetsTheState := by
  intro s n row supported good metrics wide high
  rw [exec_mode_of_supported supported, modeSwitch_builtin supported good metrics wide high]

/-- Settles O43: the three refusals of the mode switch, for the parameter's geometry and the default font. -/
theorem modeRefusesWhatHasNoMeaning : Obligations.ModeRefusesWhatHasNoMeaning := by
  intro s n row supported
  have answer := geometryAnswer_builtin supported none
  rw [exec_mode_of_supported supported]
  exact ⟨modeSwitch_badGeometry answer, modeSwitch_badMetrics answer, modeSwitch_glyphTooLarge answer⟩

/-- Settles O42: an unsupported mode is one outcome and 24 enqueues. -/
theorem unsupportedModeOnlyReports : Obligations.UnsupportedModeOnlyReports := by
  intro s n unsupported ok
  obtain ⟨t, es, next, frame, -, unreadt, overflow, length⟩ :=
    Queue.enqueueAll_spec failureText (s := s.raise (.unsupportedMode n)) ok
  have reported : exec (.mode n) s = .next t := by
    change execMode n s = _
    rw [execMode, unsupported]
    exact next
  have trace : t.trace = s.trace ++ .outcome (.unsupportedMode n) :: es := by
    rw [frame, raise_trace, List.append_assoc, List.singleton_append]
  refine ⟨t, es, reported, ?_, trace, overflow, length, unreadt⟩
  rw [frame]
  rfl

/-! ### Startup and reset (70_reset_and_hazards.md R291 to R293) -/

/-- A working platform's default mode has a geometry that holds the default font's glyph. -/
theorem exists_row_of_platformOk {p : Params} (ok : platformOk p) :
    ∃ row, modeRow p p.defaultMode = some row ∧ geometryOk row.geometry = true ∧
      p.font.fw.toNat ≤ row.geometry.w.toNat ∧ p.font.fh.toNat ≤ row.geometry.h.toNat := by
  obtain ⟨-, metrics, grid, geometry⟩ := ok
  obtain ⟨row, supported, good⟩ := Option.map_eq_some_iff.1 geometry
  have screen : (State.resetOn p).scr.fw = p.font.fw.toNat ∧ (State.resetOn p).scr.fh = p.font.fh.toNat ∧
      (State.resetOn p).scr.w = row.geometry.w.toNat ∧ (State.resetOn p).scr.h = row.geometry.h.toNat := by
    rw [modeRow] at supported
    simp [State.resetOn, supported]
  obtain ⟨fw, fh, w, h⟩ := screen
  obtain ⟨fwPos, fhPos⟩ := metrics_pos metrics
  have fits := (gridOk_iff_fits (by rw [fw]; exact fwPos) (by rw [fh]; exact fhPos)).1 grid
  rw [fw, fh, w, h] at fits
  exact ⟨row, supported, good, fits⟩

/-- What startup clears before it switches to the default mode (R291). -/
def forgotten (s : State) : State :=
  { s with
    queue := { s.queue with r := 0, w := 0, count := 0 }
    framer := { s.framer with state := .awaitingOpcode, exp := 0, cnt := 0 }
    flashCnt := 0
    vsync := false
    scr := { s.scr with mode := .noMode }
    fcVisible := false
    bcVisible := false }

theorem startup_eq (s : State) : startup s = modeSwitch (.builtin s.params.defaultMode) none (forgotten s) := rfl

/-- The far edge of the last cell is that of the whole grid. -/
theorem ofNat_pred_add_one {n : Nat} (h : 0 < n) : BitVec.ofNat 32 (n - 1) + 1#32 = BitVec.ofNat 32 n := by
  rw [← BitVec.ofNat_add, Nat.sub_add_cancel h]

/-- Settles O12: startup is the switch to the default mode from a state that has forgotten its mode, so it remaps. -/
theorem startupReachesTheResetState : Obligations.StartupReachesTheResetState := by
  intro s ok
  obtain ⟨row, supported, good, wide, high⟩ := exists_row_of_platformOk ok
  obtain ⟨-, metrics, -⟩ := ok
  obtain ⟨fw, fh⟩ := metrics_pos metrics
  rw [startup_eq, modeSwitch_builtin (s := forgotten s) supported good metrics wide high]
  rw [modeRow] at supported
  simp [switched, forgotten, State.resetOn, supported, cellRect, toWord, ofNat_pred_add_one (Nat.div_pos wide fw),
    ofNat_pred_add_one (Nat.div_pos high fh)]

/-- Settles O13: an empty queue, an idle framer and agents, and full-screen windows on a grid that has a cell. -/
theorem resetStateSatisfiesTheInvariant : Obligations.ResetStateSatisfiesTheInvariant := by
  intro p ok
  obtain ⟨cap, -, grid, -⟩ := ok
  refine ⟨cap, ?queue, rfl, ?framer, ?text, Windows.gwValid_fullScreen, ?paint, ?counters, ?agents, ⟨rfl, rfl, rfl⟩, rfl,
    ModeId.noConfusion⟩
  case queue =>
    obtain ⟨positive, -⟩ := cap
    refine ⟨⟨List.Pairwise.nil, by simp [State.resetOn]⟩, by simp [State.resetOn], ?_, Nat.zero_le _, ?_⟩
    · change 0 < p.qcap
      omega
    · exact (Nat.zero_mod _).symm
  case framer => exact ⟨by simp [State.resetOn, fbufLen], FState.noConfusion⟩
  case text => exact ⟨grid, Windows.twValid_fullScreen grid, Windows.inside_home _ _, Bool.noConfusion⟩
  case paint => exact ⟨rfl, Bool.noConfusion⟩
  case counters => exact ⟨Nat.zero_le _, Nat.zero_le _⟩
  case agents => exact Bool.noConfusion

/-! ### Custom modes (R249) -/

theorem exec_modeDefine {s : State} {n : Byte} (kind : subKind s.params n = some .modeDefine)
    (d0 d1 d2 d3 d4 d5 d6 d7 : Byte) :
    exec (.vdu23 n d0 d1 d2 d3 d4 d5 d6 d7) s = modeSwitch .custom (some [d0, d1, d2, d3, d4, d5, d6, d7]) s :=
  Extended.exec_vdu23_of_subKind kind d0 d1 d2 d3 d4 d5 d6 d7

theorem customGeometry_of_nextAnswer {s : State} {d : List Byte} {g : Geometry} {rest : List Geometry}
    (next : nextAnswer s.collab.geometryAnswers (s.freeMode d) = (g, rest)) :
    s.customGeometry d =
      (g, { s with collab := { s.collab with geometryAnswers := rest, free := s.collab.free + 1 } }) := by
  rw [State.customGeometry, next]

/-- The geometry of a custom mode is the next answer, or the free one (log 9). -/
theorem geometryAnswer_custom {s : State} {d : List Byte} {g : Geometry} {rest : List Geometry}
    (next : nextAnswer s.collab.geometryAnswers ((beginSwitch .custom (some d) s).freeMode d) = (g, rest)) :
    ∃ s1, geometryAnswer .custom (some d) (beginSwitch .custom (some d) s) = some (g, s1) ∧
      s1.collab = { s.collab with font := s.params.font, fontParams := List.replicate 8 none, geometryAnswers := rest,
                                  free := s.collab.free + 1 } := by
  have collab : (beginSwitch .custom (some d) s).collab = s.defaultFont.collab := by rw [beginSwitch_frame]
  have answers : (beginSwitch .custom (some d) s).collab.geometryAnswers = s.collab.geometryAnswers := by rw [collab]; rfl
  rw [← answers] at next
  refine ⟨_, congrArg some (customGeometry_of_nextAnswer next), ?_⟩
  rw [collab]
  rfl

/-- A free geometry keeps its contract and holds the font's glyph (60_exceptions.md R281; log 9). -/
theorem freeMode_spec {s : State} (d : List Byte) (metrics : metricsOk s.collab.font = true) :
    geometryOk (s.freeMode d) = true ∧ s.collab.font.fw.toNat ≤ (s.freeMode d).w.toNat ∧
      s.collab.font.fh.toNat ≤ (s.freeMode d).h.toNat := by
  rw [State.freeMode]
  split
  · simp_all
  · obtain ⟨fw, fh⟩ := metricsOk_iff.1 metrics
    simp [geometryOk, fw, fh]

/-- Settles O48: the four outcomes of the mode switch for the answer that comes next. -/
theorem customModeAlwaysRemaps : Obligations.CustomModeAlwaysRemaps := by
  intro s n d0 d1 d2 d3 d4 d5 d6 d7 kind d run m after
  have switch : run = modeSwitch .custom (some d) s := exec_modeDefine kind d0 d1 d2 d3 d4 d5 d6 d7
  rw [switch]
  refine ⟨fun g rest answers => ?answered, fun unanswered metrics => ?free⟩
  case answered =>
    obtain ⟨s1, answer, collab⟩ := geometryAnswer_custom (s := s) (d := d) (g := g) (rest := rest) (by rw [answers, nextAnswer_cons])
    refine ⟨fun good metrics wide high => ?_, modeSwitch_badGeometry answer, modeSwitch_badMetrics answer,
      modeSwitch_glyphTooLarge answer⟩
    rw [modeSwitch_fits answer good metrics wide high, collab]
    rfl
  case free =>
    obtain ⟨s1, answer, collab⟩ := geometryAnswer_custom (s := s) (d := d) (by rw [unanswered, nextAnswer_nil])
    obtain ⟨good, wide, high⟩ := freeMode_spec (s := beginSwitch .custom (some d) s) d (by rwa [beginSwitch_font])
    rw [beginSwitch_font] at wide high
    refine ⟨_, good, wide, high, ?_⟩
    rw [modeSwitch_fits answer good metrics wide high, collab]
    rfl

end Sys2Proof.Proofs.ModeSwitch
end

-- ==== Proofs of the VDU 23 family: kinds, tint and font select (44_mode_ext.md) ====
section
namespace Sys2Proof.Proofs.SubCommands

open Sys2Proof Sys2Proof.Machine Sys2Proof.Proofs.Extended

/-! ### The kind of a number (R240; 30_encoding.md R87; 60_exceptions.md R281) -/

theorem mem_listedKinds {p : Params} {n : Byte} {k : SubKind} : k ∈ listedKinds p n ↔ (n, k) ∈ p.subCmd := by
  simp [listedKinds]

theorem subKind_of_le {p : Params} {n : Byte} (h : 32 ≤ n.toNat) : subKind p n = some .defineGlyph := if_pos h

theorem subKind_of_unnamed {p : Params} {n : Byte} (h : n.toNat < 32) (unnamed : ∀ e ∈ p.subCmd, e.1 ≠ n) :
    subKind p n = some .unknown := by
  have unlisted : listedKinds p n = [] :=
    List.eq_nil_iff_forall_not_mem.2 fun k named => unnamed (n, k) (mem_listedKinds.1 named) rfl
  rw [subKind, if_neg h.not_ge, unlisted]

/-- A named number has the first kind listed for it, if that is the only one. -/
theorem subKind_of_cons {p : Params} {n : Byte} {first : SubKind} {others : List SubKind} (h : n.toNat < 32)
    (listed : listedKinds p n = first :: others) :
    subKind p n = if ∀ j ∈ others, j = first then some first else none := by
  rw [subKind, if_neg h.not_ge, listed]
  simp

theorem subKind_of_one {p : Params} {n : Byte} {k : SubKind} (h : n.toNat < 32) (named : (n, k) ∈ p.subCmd)
    (only : ∀ e ∈ p.subCmd, e.1 = n → e.2 = k) : subKind p n = some k := by
  have same : ∀ j ∈ listedKinds p n, j = k := fun j listed => only (n, j) (mem_listedKinds.1 listed) rfl
  rw [← mem_listedKinds] at named
  cases listed : listedKinds p n with
  | nil => simp [listed] at named
  | cons first others =>
    rw [listed] at same
    obtain rfl : first = k := same first List.mem_cons_self
    rw [subKind_of_cons h listed, if_pos fun j later => same j (List.mem_cons_of_mem _ later)]

theorem subKind_of_two {p : Params} {n : Byte} {k k' : SubKind} (h : n.toNat < 32) (named : (n, k) ∈ p.subCmd)
    (named' : (n, k') ∈ p.subCmd) (differ : k ≠ k') : subKind p n = none := by
  rw [← mem_listedKinds] at named named'
  cases listed : listedKinds p n with
  | nil => simp [listed] at named
  | cons first others =>
    rw [listed, List.mem_cons] at named named'
    rw [subKind_of_cons h listed, if_neg]
    intro only
    exact differ ((named.elim id (only k)).trans (named'.elim id (only k')).symm)

theorem exec_vdu23_of_none {s : State} {n : Byte} (kind : subKind s.params n = none) (d0 d1 d2 d3 d4 d5 d6 d7 : Byte) :
    exec (.vdu23 n d0 d1 d2 d3 d4 d5 d6 d7) s = .refused (.ambiguousSubCmd n) := by
  change execVdu23 n d0 d1 d2 d3 d4 d5 d6 d7 s = _
  rw [execVdu23, kind]

/-- Settles O45: the kinds as the map lists them, and the sub-command that each of four kinds selects. -/
theorem extendedCommandsDispatchOnTheKind : Obligations.ExtendedCommandsDispatchOnTheKind := by
  intro s n d0 d1 d2 d3 d4 d5 d6 d7 d run asks
  have runs : ∀ {k}, subKind s.params n = some k → run = subCommand k n d0 d1 d s :=
    fun kind => exec_vdu23_of_subKind kind d0 d1 d2 d3 d4 d5 d6 d7
  exact ⟨subKind_of_le, subKind_of_unnamed, fun h k => subKind_of_one h, fun h k k' => subKind_of_two h,
    runs, runs, runs, runs, fun kind => exec_vdu23_of_none kind d0 d1 d2 d3 d4 d5 d6 d7⟩

/-! ### Tint (R246; 43_colour.md R217) -/

/-- Settles O46: `tintWrite` picks the register by number, and `withTint` writes its high two bits only. -/
theorem tintWritesTwoBits : Obligations.TintWritesTwoBits := by
  intro s n d0 d1 d2 d3 d4 d5 d6 d7 kind
  refine ⟨tintWrite d0 d1 s, exec_vdu23_of_subKind kind d0 d1 d2 d3 d4 d5 d6 d7, ?_⟩
  intro written
  refine ⟨?tfg, ?tbg, ?gfg, ?gbg, ?other⟩
  case other =>
    intro high
    rw [tintWrite]
    split
    case h_5 => rfl
    all_goals omega
  all_goals
    intro which
    simp only [tintWrite, which, true_and]
    exact withTint_bits _ _

/-! ### Font select (R243; 60_exceptions.md R263, R281) -/

/-- The state in which a font select has read the metrics of the font then active, kept in `c`. -/
def fontLoaded (d : List Byte) (c : Collab) (s : State) : State :=
  loadFont { s.request (.fontSelect d) with collab := c }

theorem fontLoaded_eq (d : List Byte) (c : Collab) (s : State) : fontLoaded d c s =
    { s with
      scr := { s.scr with fw := c.font.fw.toNat, fh := c.font.fh.toNat }
      collab := c
      trace := s.trace ++ [.request (.fontSelect d), .request .fontMetrics] } := by
  simp [fontLoaded, loadFont]

/-- The select leaves a font in the collaborator: it writes nothing else. -/
def Selects (d : List Byte) (c : Collab) (s : State) : Prop :=
  (s.request (.fontSelect d)).selectFont d = { s.request (.fontSelect d) with collab := c }

/-- Eight sentinels leave the collaborator as it was. -/
theorem selects_of_sentinels {d : List Byte} (h : ∀ b ∈ d, b = ignoreByte) (s : State) : Selects d s.collab s := by
  obtain ⟨-, kept⟩ | ⟨other, -⟩ := selectFont_cases d (s.request (.fontSelect d))
  · exact kept
  · exact absurd h other

/-- Any other byte applies the parameters and takes the next answer, or the free one (log 8). -/
theorem selects_of_nextAnswer {d : List Byte} {s : State} {m : Metrics} {rest : List Metrics}
    (h : ¬ ∀ b ∈ d, b = ignoreByte)
    (next : nextAnswer s.collab.fontAnswers
      ((s.request (.fontSelect d)).freeFont (applyFontParams s.collab.fontParams d)) = (m, rest)) :
    Selects d { s.collab with
      font := m, fontParams := applyFontParams s.collab.fontParams d, fontAnswers := rest,
      free := s.collab.free + 1 } s := by
  obtain ⟨all, -⟩ | ⟨-, m', rest', next', selected⟩ := selectFont_cases d (s.request (.fontSelect d))
  · exact absurd all h
  · obtain ⟨rfl, rfl⟩ := Prod.mk.inj (next.symm.trans next')
    exact selected

section
variable {d : List Byte} {c : Collab} {s : State} (selects : Selects d c s)
include selects

theorem fontSelect_of_selects :
    fontSelect d s =
      if !metricsOk c.font then .refused .badMetrics
      else if !gridOk (fontLoaded d c s).scr then .refused .glyphTooLarge
      else .next (reclampText (fontLoaded d c s)) := by
  rw [fontSelect, selects]
  rfl

theorem fontSelect_badMetrics (bad : metricsOk c.font = false) : fontSelect d s = .refused .badMetrics := by
  rw [fontSelect_of_selects selects, bad]
  rfl

omit selects in
theorem gridOk_fontLoaded (metrics : metricsOk c.font = true) :
    gridOk (fontLoaded d c s).scr = true ↔ c.font.fw.toNat ≤ s.scr.w ∧ c.font.fh.toNat ≤ s.scr.h := by
  obtain ⟨fw, fh⟩ := metrics_pos metrics
  exact gridOk_iff_fits fw fh

theorem fontSelect_glyphTooLarge (metrics : metricsOk c.font = true)
    (large : s.scr.w < c.font.fw.toNat ∨ s.scr.h < c.font.fh.toNat) : fontSelect d s = .refused .glyphTooLarge := by
  have noGrid : gridOk (fontLoaded d c s).scr = false := by
    rw [Bool.eq_false_iff, ne_eq, gridOk_fontLoaded metrics]
    omega
  rw [fontSelect_of_selects selects, metrics, noGrid]
  rfl

/-- A font that fits is loaded, and the text state re-clamped into its grid. -/
theorem fontSelect_fits (metrics : metricsOk c.font = true) (wide : c.font.fw.toNat ≤ s.scr.w)
    (high : c.font.fh.toNat ≤ s.scr.h) :
    fontSelect d s = .next (reclampText (fontLoaded d c s)) ∧ textOk (reclampText (fontLoaded d c s)) := by
  have grid : gridOk (fontLoaded d c s).scr = true := (gridOk_fontLoaded metrics).2 ⟨wide, high⟩
  refine ⟨?_, (Windows.textOk_reclampText grid).1⟩
  rw [fontSelect_of_selects selects, metrics, grid]
  rfl

end

/-- A free font keeps its contract and fits a screen that has a pixel (log 8). -/
theorem freeFont_spec {s : State} (ps : List (Option Byte)) (w : 0 < s.scr.w) (h : 0 < s.scr.h) :
    metricsOk (s.freeFont ps) = true ∧ (s.freeFont ps).fw.toNat ≤ s.scr.w ∧ (s.freeFont ps).fh.toNat ≤ s.scr.h := by
  rw [State.freeFont]
  split
  case isTrue fits => simpa using fits
  case isFalse => exact ⟨by decide, w, h⟩

/-- Settles O47: the three outcomes of a font select, for the font that each way of selecting leaves active. -/
theorem fontSelectReclampsTheTextState : Obligations.FontSelectReclampsTheTextState := by
  intro s n d0 d1 d2 d3 d4 d5 d6 d7 kind d run applied after fits answers
  have selected : run = fontSelect d s := exec_vdu23_of_subKind kind d0 d1 d2 d3 d4 d5 d6 d7
  have outcomes : ∀ {c : Collab}, Selects d c s → answers c.font c := by
    intro c selects
    refine ⟨fun ⟨metrics, wide, high⟩ => ?_, fun bad => ?_, fun metrics large => ?_⟩
    · rw [selected]
      have loaded : reclampText (fontLoaded d c s) = after c.font c := by rw [fontLoaded_eq]; rfl
      rw [← loaded]
      exact fontSelect_fits selects metrics wide high
    · rw [selected]
      exact fontSelect_badMetrics selects bad
    · rw [selected]
      exact fontSelect_glyphTooLarge selects metrics large
  refine ⟨fun sentinels => outcomes (selects_of_sentinels sentinels s), fun ⟨x, listed, other⟩ => ?_⟩
  have applies : ¬ ∀ b ∈ d, b = ignoreByte := fun all => other (all x listed)
  refine ⟨fun m rest next => ?answered, fun unanswered w h => ?free⟩
  case answered => exact outcomes (selects_of_nextAnswer applies (by rw [next, nextAnswer_cons]))
  case free =>
    obtain ⟨metrics, wide, high⟩ := freeFont_spec (s := s.request (.fontSelect d))
      (applyFontParams s.collab.fontParams d) w h
    obtain ⟨completes, -⟩ := outcomes (selects_of_nextAnswer applies (by rw [unanswered, nextAnswer_nil]))
    obtain ⟨next, text⟩ := completes ⟨metrics, wide, high⟩
    rw [← unanswered] at next text
    exact ⟨_, ⟨metrics, wide, high⟩, next, text⟩

end Sys2Proof.Proofs.SubCommands
end

-- ==== Proofs of the framer family: hiding, framing and placing (40_framer_dispatch.md) ====
section
namespace Sys2Proof.Proofs.Framing

open Sys2Proof Sys2Proof.Machine

/-! ### Hide and restore around every command (R104; 41_cursor.md R159 to R163) -/

/-- `CursorHide` paints each cursor that is shown once more, the flashing one first (R162). -/
theorem cursorHide_paints (s : State) : cursorHide s =
    { s with
      fcVisible := false
      bcVisible := false
      trace := s.trace ++ (if s.fcVisible then [.request (.smXorCell (flashRect s))] else []) ++
        (if s.bcVisible then [.request (.smXorCell (blockRect s))] else []) } := by
  have trace : (cursorHide s).trace =
      s.trace ++ (if s.fcVisible then [.request (.smXorCell (flashRect s))] else []) ++
        (if s.bcVisible then [.request (.smXorCell (blockRect s))] else []) := by
    cases flash : s.fcVisible <;> cases block : s.bcVisible <;>
      simp [cursorHide, toggleFlash_eq, toggleBlock_eq, flash, block, blockRect]
  rw [← trace]
  exact cursorHide_eq s

/-- `CursorRestore` without a mode switch paints the flashing cursor where it was shown before and is enabled, then the
block cursor in edit mode (R163). -/
theorem cursorRestore_paints {vis : Bool} {s : State} (running : s.reinit = false) : cursorRestore vis s =
    { s with
      fcVisible := if vis && s.cursorEnabled then !s.fcVisible else s.fcVisible
      bcVisible := if s.edit then !s.bcVisible else s.bcVisible
      trace := s.trace ++ (if vis && s.cursorEnabled then [.request (.smXorCell (flashRect s))] else []) ++
        (if s.edit then [.request (.smXorCell (blockRect s))] else []) } := by
  have trace : (cursorRestore vis s).trace =
      s.trace ++ (if vis && s.cursorEnabled then [.request (.smXorCell (flashRect s))] else []) ++
        (if s.edit then [.request (.smXorCell (blockRect s))] else []) := by
    rw [cursorRestore, running, if_neg Bool.false_ne_true]
    cases flash : vis && s.cursorEnabled <;> cases block : s.edit <;>
      simp [toggleFlash_eq, toggleBlock_eq, block, blockRect]
  have toggled : ∀ shown paint : Bool, (shown ^^ paint) = if paint then !shown else shown := by decide
  obtain ⟨restart, -⟩ | ⟨-, restored⟩ := cursorRestore_cases vis s
  · rw [running] at restart
    cases restart
  · rw [restored, trace, toggled, toggled]

/-- Settles O60: `runCommand` is `exec` from the hidden state, whose next state is restored. -/
theorem handlersRunWithCursorsHidden : Obligations.HandlersRunWithCursorsHidden := by
  intro i s hidden shown
  have hides : cursorHide { s with reinit := false } = hidden := cursorHide_paints _
  have restores : ∀ t, cursorRestore s.fcVisible t = shown t := by
    intro t
    cases restart : t.reinit
    case false => simp only [shown, restart, Bool.false_eq_true, if_false, cursorRestore_paints restart]
    case true => simp only [shown, cursorRestore, restart, if_true]
  rw [runCommand, hides]
  refine ⟨fun t next => ?_, fun r fault => ?_, fun r refused => ?_⟩
  · rw [next, andThen_next, restores]
  · rw [fault, andThen_fault]
  · rw [refused, andThen_refused]

theorem exec_codeWithoutMeaning {a : Byte} {i : Instr} (s : State)
    (h : i ∈ [.nul, .vdu1 a, .vdu2, .vdu3, .vdu6, .vdu7, .vdu14, .vdu15, .vdu21]) : exec i s = .next s := by
  simp only [List.mem_cons, List.not_mem_nil, or_false] at h
  obtain rfl | rfl | rfl | rfl | rfl | rfl | rfl | rfl | rfl := h
  all_goals rfl

/-- Settles O40: nothing happens between hide and restore, and the painted cursors come back as they were (R164). -/
theorem codesWithoutMeaningChangeNothing : Obligations.CodesWithoutMeaningChangeNothing := by
  intro s a i code
  refine ⟨exec_codeWithoutMeaning s code, ?_⟩
  intro paint running es
  obtain ⟨block, flash⟩ := paint
  obtain ⟨completed, -⟩ := handlersRunWithCursorsHidden i s
  rw [completed _ (exec_codeWithoutMeaning _ code)]
  have shownBefore : (s.fcVisible && s.cursorEnabled) = s.fcVisible := by
    cases visible : s.fcVisible
    · rfl
    · exact flash visible
  have flashBack : (if s.fcVisible = true then true else false) = s.fcVisible := by simp
  have blockBack : (if s.edit = true then true else false) = s.bcVisible := by simp [block]
  simp only [Bool.false_eq_true, if_false, shownBefore, Bool.not_false, flashBack, blockBack]
  simp only [es, block, List.append_assoc, ← running]
  rfl

/-! ### One byte into the framer (R102) -/

theorem step_of_consumerTurn {s : State} (turn : (nextTurn s).1 = .consumer) : step s = consumerStep (nextTurn s).2 := by
  rw [step, turn, takeTurn]

/-- Settles O5, from `frame_last`. -/
theorem lastByteRunsTheDecodedCommand : Obligations.LastByteRunsTheDecodedCommand := by
  intro s b i turn place binding framer decoded
  rw [step_of_consumerTurn turn, consumerStep_frame place,
    frame_last (s := (nextTurn s).2.setConsumer .draining) binding framer decoded]
  rfl

/-- Settles O6, from `frame_more`. -/
theorem incompleteCommandOnlyBuffers : Obligations.IncompleteCommandOnlyBuffers := by
  intro s b op need got turn place binding framer decoded
  rw [step_of_consumerTurn turn, consumerStep_frame place,
    frame_more (s := (nextTurn s).2.setConsumer .draining) binding framer decoded]
  rfl

/-- The framer after an argument that is not the last, or an opcode that takes arguments. -/
def buffered (s : State) (b op : Byte) : Framer where
  state := .bufferingArgs
  exp := arglen op
  cnt := (framed s).length
  handler := some (handlerFor s.vdu5 op)
  buf := framed s ++ [b] ++ s.framer.buf.drop ((framed s).length + 1)

/-- Where the framer stands, with the byte it is given: the opcode first, and no byte too many. -/
theorem framed_append {s : State} (ok : framerOk s) (b : Byte) :
    ∃ op as, framed s ++ [b] = op :: as ∧ as.length = (framed s).length ∧ (framed s).length ≤ arglen op := by
  obtain ⟨length, buffering⟩ := ok
  cases place : s.framer.state
  case awaitingOpcode =>
    have noBytes : framed s = [] := by rw [framed, place]
    rw [noBytes]
    exact ⟨b, [], rfl, rfl, Nat.zero_le _⟩
  case bufferingArgs =>
    obtain ⟨exp, missing, -⟩ := buffering place
    obtain ⟨op, rest, bytes⟩ := List.exists_cons_of_length_eq_add_one length
    rw [bytes, argByte_zero] at exp
    have cmd : framed s = op :: rest.take s.framer.cnt := by rw [framed, place]; simp [bytes]
    rw [cmd]
    refine ⟨op, _, List.cons_append, by simp, ?_⟩
    rw [List.length_cons, List.length_take]
    omega

/-- The byte completes the command, or leaves it short; no command is longer than the scratch buffer (R101, R102). -/
theorem decode_framed_append {s : State} (ok : framerOk s) (b : Byte) :
    ∃ op as, framed s ++ [b] = op :: as ∧
      ((∃ i, decode s.vdu5 (framed s ++ [b]) = .ok i []) ∨
       (framed s).length < arglen op ∧
        decode s.vdu5 (framed s ++ [b]) = .truncated op (arglen op) (framed s).length) := by
  obtain ⟨op, as, bytes, length, notTooMany⟩ := framed_append ok b
  refine ⟨op, as, bytes, ?_⟩
  rw [bytes, decode, ← length]
  obtain short | complete := Nat.lt_or_ge as.length (arglen op)
  · exact .inr ⟨short, if_pos short⟩
  · have rest : as.drop (arglen op) = [] := List.drop_eq_nil_of_le (by omega)
    exact .inl ⟨_, by rw [if_neg complete.not_gt, rest]⟩

/-- `frame_more`, with the framer it leaves. -/
theorem frame_buffers {s : State} {b op : Byte} (binding : bindingOk s) (ok : framerOk s)
    (short : decode s.vdu5 (framed s ++ [b]) = .truncated op (arglen op) (framed s).length) :
    frame b s = .next { s with framer := buffered s b op } := frame_more binding ok short

/-- The framer keeps its form while it buffers (R101, R103). -/
theorem framerOk_buffered {s : State} {b op : Byte} {as : List Byte} (binding : bindingOk s) (ok : framerOk s)
    (bytes : framed s ++ [b] = op :: as) (short : (framed s).length < arglen op) :
    framerOk { s with framer := buffered s b op } := by
  have opcode : argByte (buffered s b op).buf 0 = op := by rw [buffered, bytes, List.cons_append, argByte_zero]
  refine ⟨?_, fun _ => ⟨?_, short, ?_⟩⟩
  · have bound := arglen_le op
    obtain ⟨length, -⟩ := ok
    simp only [buffered, List.length_append, List.length_singleton, List.length_drop, length, fbufLen]
    omega
  · rw [opcode]
    rfl
  · rw [opcode]
    exact congrArg some (dispatchHandler_of_bindingOk binding op).symm

theorem framed_buffered (s : State) (b op : Byte) :
    framed { s with framer := buffered s b op } = framed s ++ [b] := by
  have taken : (framed s ++ [b] ++ s.framer.buf.drop ((framed s).length + 1)).take ((framed s).length + 1) =
      framed s ++ [b] := List.take_left' (by rw [List.length_append, List.length_singleton])
  exact taken

/-- The framer after a whole command depends on the scratch buffer past the command only. -/
theorem framerAfter_buffered {s : State} {b op : Byte} {bytes : List Byte} (h : (framed s).length < bytes.length) :
    framerAfter { s with framer := buffered s b op } bytes = framerAfter s bytes := by
  have past : (framed s ++ [b] ++ s.framer.buf.drop ((framed s).length + 1)).drop bytes.length =
      s.framer.buf.drop bytes.length := by
    rw [List.drop_append, List.drop_eq_nil_of_le (by simp; omega), List.nil_append, List.drop_drop]
    congr 1
    simp
    omega
  simp only [framerAfter, buffered, past]

/-! ### A whole command from the queue (R102; 20_memory.md R64) -/

theorem run_of_step {n : Nat} {s t : State} (h : step s = .next t) :
    Host.Core.run Sys2Proof.core (n + 1) s = Host.Core.run Sys2Proof.core n t := by
  rw [run_succ, h]
  rfl

theorem andThen_run_zero (r : Result) : andThen r (fun t => Host.Core.run Sys2Proof.core 0 t) = r := by
  cases r <;> rfl

/-- The consumer's two steps for one byte: the pop and the framing. -/
theorem run_pop_frame {s : State} {b : Byte} (k : Nat) (queue : queueOk s) (moving : draining s)
    (first : (unread s).head? = some b) :
    Host.Core.run Sys2Proof.core (k + 2) s =
      andThen (frame b { s with queue := popped s 1 }) (fun t => Host.Core.run Sys2Proof.core k t) := by
  obtain ⟨noTurn, noWaiter, place⟩ := moving
  have pops : step s = .next ({ s with queue := popped s 1 }.setConsumer (.framing b)) := by
    rw [step_consumer noTurn noWaiter (by simp [place]), consumerStep_pop queue place first]
  have frames : step ({ s with queue := popped s 1 }.setConsumer (.framing b)) = frame b { s with queue := popped s 1 } := by
    have moves : step ({ s with queue := popped s 1 }.setConsumer (.framing b)) =
        consumerStep ({ s with queue := popped s 1 }.setConsumer (.framing b)) :=
      step_consumer noTurn noWaiter Consumer.noConfusion
    rw [moves, consumerStep_frame rfl]
    congr 1
    simp [State.setConsumer, ← place]
  rw [run_of_step pops, run_succ, frames]

/-- A command that is decoded to its last byte is short without it. -/
theorem decode_short {v : Bool} {xs ys : List Byte} {i : Instr} {op : Byte} {as : List Byte} (bytes : xs = op :: as)
    (more : ys ≠ []) (whole : decode v (xs ++ ys) = .ok i []) :
    as.length < arglen op ∧ decode v xs = .truncated op (arglen op) as.length := by
  subst bytes
  rw [List.cons_append] at whole
  obtain ⟨-, rest, -⟩ := decode_cons_ok whole
  have all := List.drop_eq_nil_iff.1 rest.symm
  have nonempty := List.length_pos_iff.2 more
  rw [List.length_append] at all
  have short : as.length < arglen op := by omega
  exact ⟨short, if_pos short⟩

/-- Each byte of a command takes a pop and a framing, and the last framing runs it. -/
theorem run_command_bytes (bs : List Byte) (b : Byte) :
    ∀ {s : State} {i : Instr} {tail : List Byte},
      queueOk s → bindingOk s → framerOk s → draining s → decode s.vdu5 (framed s ++ b :: bs) = .ok i [] →
      unread s = b :: bs ++ tail →
      Host.Core.run Sys2Proof.core (2 * (b :: bs).length) s =
        runCommand i { s with queue := popped s (b :: bs).length, framer := framerAfter s (framed s ++ b :: bs) } := by
  induction bs generalizing b with
  | nil =>
    intro s i tail queue binding framer moving decoded front
    have first : (unread s).head? = some b := by rw [front]; rfl
    exact (run_pop_frame 0 queue moving first).trans
      ((andThen_run_zero _).trans (frame_last (s := { s with queue := popped s 1 }) binding framer decoded))
  | cons b' bs ih =>
    intro s i tail queue binding framer moving decoded front
    have first : (unread s).head? = some b := by rw [front]; rfl
    have nonempty : 0 < s.queue.count := by rw [← unread_length, front]; simp
    obtain ⟨op, as, bytes, length, -⟩ := framed_append framer b
    rw [List.append_cons] at decoded
    obtain ⟨missing, short⟩ := decode_short bytes (List.cons_ne_nil b' bs) decoded
    rw [length] at missing short
    let u : State := { s with queue := popped s 1 }
    let w : State := { u with framer := buffered u b op }
    have buffers : frame b u = .next w := frame_buffers (s := u) binding framer short
    have framedNow : framed w = framed s ++ [b] := framed_buffered u b op
    have rest : unread w = b' :: bs ++ tail := (Queue.unread_pop s).trans (by rw [front]; rfl)
    have queueNow : popped w (b' :: bs).length = popped s (b :: b' :: bs).length :=
      popped_popped (s := s) (t := w) rfl rfl
    have longer : (framed s).length < (framed s ++ [b] ++ b' :: bs).length := by
      simp only [List.length_append, List.length_singleton]
      omega
    have framerNow : framerAfter w (framed s ++ [b] ++ b' :: bs) = framerAfter s (framed s ++ [b] ++ b' :: bs) :=
      framerAfter_buffered (s := u) longer
    have runs := ih b' (s := w) (queueOk_popped queue nonempty rfl rfl) binding
      (framerOk_buffered (s := u) binding framer bytes missing) moving (by rw [framedNow]; exact decoded) rest
    rw [framedNow, queueNow, framerNow] at runs
    have doubled : 2 * (b :: b' :: bs).length = 2 * (b' :: bs).length + 2 := rfl
    rw [doubled, run_pop_frame _ queue moving first, List.append_cons]
    exact (congrArg (fun r => andThen r _) buffers).trans runs

/-- Settles O7, from `run_command_bytes`, an induction on the command's bytes. -/
theorem queuedCommandRunsAfterItsBytes : Obligations.QueuedCommandRunsAfterItsBytes := by
  intro s i tail inv moving awaiting wf front
  obtain ⟨-, queue, binding, framer, -⟩ := inv
  have noBytes : framed s = [] := by rw [framed, awaiting]
  have decoded : decode s.vdu5 (framed s ++ encode i) = .ok i [] := by
    rw [noBytes, List.nil_append, ← List.append_nil (encode i)]
    exact RoundTrip.decodeOfEncodeIsTheCommand s.vdu5 i [] wf
  have runs := run_command_bytes i.args i.opcode queue binding framer moving decoded front
  rw [noBytes] at runs
  exact runs

/-! ### A placed command (log 7) -/

theorem decode_of_take {v : Bool} {op : Byte} {tail rest : List Byte} {i : Instr}
    (h : decode v (op :: tail) = .ok i rest) : decode v (op :: tail.take (arglen op)) = .ok i [] := by
  obtain ⟨enough, -, rfl⟩ := decode_cons_ok h
  have length := List.length_take_of_le enough
  simpa using decode_of_args v op (tail.take (arglen op)) [] length

/-- The primed framer is in order, and holds the command's bytes but for the last (R102). -/
theorem primedFramer_spec {s : State} {op : Byte} {tail : List Byte}
    (length : s.framer.buf.length = fbufLen) (enough : arglen op ≤ tail.length) :
    framerOk { s with framer := primedFramer s (op :: tail) } ∧
    framed { s with framer := primedFramer s (op :: tail) } ++ [argByte (op :: tail) (arglen op)] =
      op :: tail.take (arglen op) := by
  cases count : arglen op with
  | zero =>
    have primed : primedFramer s (op :: tail) = { s.framer with state := .awaitingOpcode } := if_pos count
    rw [primed]
    exact ⟨⟨length, FState.noConfusion⟩, rfl⟩
  | succ n =>
    have bound := arglen_le op
    have primed : primedFramer s (op :: tail) =
        { state := .bufferingArgs, exp := n + 1, cnt := n, handler := some (dispatchHandler s.dt op),
          buf := op :: (tail.take n ++ s.framer.buf.drop (n + 1)) } := by
      simp [primedFramer, count]
    have cmd : framed { s with framer := primedFramer s (op :: tail) } = op :: tail.take n := by
      have taken : (tail.take n ++ s.framer.buf.drop (n + 1)).take n = tail.take n := List.take_left' (by simp; omega)
      rw [primed]
      exact congrArg (op :: ·) taken
    refine ⟨?_, ?_⟩
    · rw [primed]
      refine ⟨?_, fun _ => ⟨count.symm, Nat.lt_succ_self n, rfl⟩⟩
      simp only [List.length_cons, List.length_append, List.length_take, List.length_drop, length, fbufLen]
      omega
    · rw [cmd, argByte_succ, argByte, List.getD_eq_getElem _ _ (by omega), List.cons_append, List.take_concat_get']

/-- Settles O8: the consumer frames the word's last byte, which completes the command that the word decodes to. -/
theorem placedWordRunsNext : Obligations.PlacedWordRunsNext := by
  intro s nbits w i binding text length word
  obtain ⟨op, tail, bytes⟩ : ∃ op tail, wordBytes nbits w = op :: tail := ⟨_, _, rfl⟩
  obtain ⟨rest, decoded⟩ : ∃ rest, decode false (op :: tail) = .ok i rest := by
    rw [decodeTableWord, bytes] at word
    split at word
    case h_1 j rest decoded => exact ⟨rest, Option.some.inj word ▸ decoded⟩
    case h_2 => cases word
  obtain ⟨enough, -⟩ := decode_cons_ok decoded
  obtain ⟨ok, cmd⟩ := primedFramer_spec length enough
  let u : State := { s with
    framer := primedFramer s (op :: tail)
    agents := { s.agents with consumer := .draining } }
  have last : decode u.vdu5 (framed u ++ [argByte (op :: tail) (arglen op)]) = .ok i [] := by
    change decode s.vdu5 (framed { s with framer := primedFramer s (op :: tail) } ++ _) = _
    rw [cmd, text, decode_of_take decoded]
  have runs : step (s.withFetchWord nbits w) = frame (argByte (op :: tail) (arglen op)) u := by
    rw [State.withFetchWord, bytes]
    rfl
  exact ⟨_, runs.trans (frame_last binding ok last), rfl, rfl⟩

end Sys2Proof.Proofs.Framing
end

-- ==== Proofs of the rules of the whole machine: what a command can do ====
section
namespace Sys2Proof.Proofs.Effects

open Sys2Proof Sys2Proof.Machine

/-! ### Everything a command can do -/

/-- The two commands that can switch the mode (44_mode_ext.md R232, R249). -/
def CanSwitch (i : Instr) : Prop :=
  (∃ n, i = .mode n) ∨ ∃ n d0 d1 d2 d3 d4 d5 d6 d7, i = .vdu23 n d0 d1 d2 d3 d4 d5 d6 d7

/-- The effects of the commands, by what they write. Every command has one of them when it answers a next state
(`exec_effect`), so a rule about all commands is a rule about these. -/
inductive Effect (s : State) : Instr → State → Prop
  /-- nothing, or only requests and outcomes -/
  | records (i : Instr) (tr : List Event) (grows : s.trace <+: tr) : Effect s i { s with trace := tr }
  /-- the text cursor, which stays in the window -/
  | text (i : Instr) (p : TextPos) (tr : List Event) (grows : s.trace <+: tr)
      (stays : inside s.tw s.txt = true → inside s.tw p = true) : Effect s i { s with txt := p, trace := tr }
  /-- the current graphics point -/
  | point (i : Instr) (p : Point) (tr : List Event) (grows : s.trace <+: tr) : Effect s i { s with g0 := p, trace := tr }
  /-- the graphics history -/
  | plots (k : Byte) (x y : Half) (p : Point) (tr : List Event) (grows : s.trace <+: tr) :
      Effect s (.plot k x y) { pushPoint p s with trace := tr }
  /-- colour registers -/
  | colours (i : Instr) (c : Colours) (tr : List Event) (grows : s.trace <+: tr) :
      Effect s i { s with col := c, trace := tr }
  /-- the dispatch entries with their flag -/
  | binds (v : Bool) : Effect s (if v then .vdu5 else .vdu4) (bindTo v s)
  /-- edit mode and the edit cursor, which starts at the text cursor and stays in the window -/
  | edits (i : Instr) (p : TextPos)
      (stays : inside s.tw (if s.edit then s.ed else s.txt) = true → inside s.tw p = true) :
      Effect s i { s with edit := true, ed := p }
  /-- a valid graphics window -/
  | gfxWindow (i : Instr) (w : GfxWindow) (valid : gwValid s.scr w = true) : Effect s i { s with gw := w }
  /-- a legal text window with cursors inside it -/
  | textWindow (i : Instr) (w : TextWindow) (p q : TextPos) (valid : twValid s.scr w = true) (txt : inside w p = true)
      (ed : s.edit = true → inside w q = true) : Effect s i { s with tw := w, txt := p, ed := q }
  /-- both default windows, the origin, and both cursors at home -/
  | defaults (i : Instr) : Effect s i (defaultWindows s)
  /-- the origin -/
  | origin (i : Instr) (p : Point) : Effect s i { s with org := p }
  /-- the cursor-enable flag -/
  | enables (i : Instr) (on : Bool) : Effect s i { s with cursorEnabled := on }
  /-- the selected sprite -/
  | sprite (i : Instr) (n : Byte) : Effect s i { s with sprSel := n }
  /-- a font that fits, with the text state re-clamped -/
  | font (i : Instr) (d : List Byte) (c : Collab) (eight : d.length = fontParamCount) (selects : SubCommands.Selects d c s)
      (grid : gridOk (SubCommands.fontLoaded d c s).scr = true) :
      Effect s i (reclampText (SubCommands.fontLoaded d c s))
  /-- the failure text in the queue -/
  | queues (n : Byte) (q : Queue) (tr : List Event) (grows : s.trace <+: tr)
      (legal : queueOk s → queueOk { s with queue := q, trace := tr }) :
      Effect s (.mode n) { s with queue := q, trace := tr }
  /-- the whole state of a mode switch -/
  | switches (i : Instr) (m : ModeId) (p : Option (List Byte)) (g : Geometry) (d : DefColours) (c : Collab)
      (command : CanSwitch i) (named : m ≠ .noMode) (grid : gridOk (switched s m p g d).scr = true)
      (metrics : c.font = s.params.font) (params : c.fontParams.length = fontParamCount) :
      Effect s i { switched s m p g d with collab := c }

section
variable {s t u : State} {i : Instr}

theorem Effect.of_exec (h : exec i s = .next t) (runs : exec i s = .next u) (effect : Effect s i u) : Effect s i t := by
  rw [runs] at h
  cases h
  exact effect

theorem Effect.of_textMove (h : TextMotion.TextMove s t) : Effect s i t := by
  have window := h.tw
  obtain ⟨frame, ⟨es, grows⟩, stays⟩ := h
  rw [window] at stays
  rw [frame]
  exact .text i _ _ ⟨es, grows.symm⟩ stays

theorem Effect.of_point {p : Point} (frame : t = { s with g0 := p }) : Effect s i t := by
  rw [frame]
  exact .point i p s.trace List.prefix_rfl

theorem effect_paintAt (c : Byte) : Effect s i (paintAt c s) := by
  cases binding : s.vdu5
  case false =>
    rw [TextMotion.paintAt_text c binding]
    exact .of_textMove ((TextMotion.textMove_emit s _).trans (TextMotion.textMove_textRight _))
  case true =>
    rw [TextMotion.paintAt_graphics c binding, gfxRight_frame]
    exact .point i _ _ (List.prefix_append _ _)

theorem effect_editKey (d : EditDir) : Effect s i (editKey d s) := by
  rw [editKey, editMove_frame, TextMotion.enterEdit_eq]
  exact .edits i _ fun h => editMove_inside (s := { s with edit := true, ed := _ }) h

theorem effect_of_modeSwitch {m : ModeId} {p : Option (List Byte)} (command : CanSwitch i)
    (h : modeSwitch m p s = .next t) : Effect s i t := by
  obtain ⟨g, s1, answer, -, -, grid, rfl⟩ := modeSwitch_next h
  rw [ModeSwitch.finishSwitch_loadScreen answer]
  have metrics := ModeSwitch.geometryAnswer_font answer
  refine .switches i m p g _ s1.collab command ?_ ?_ metrics ?_
  · rintro rfl
    cases answer
  · rw [loadScreen, metrics] at grid
    exact grid
  · rw [ModeSwitch.geometryAnswer_fontParams answer, List.length_replicate]

theorem effect_of_fontSelect {d : List Byte} (eight : d.length = fontParamCount) (h : fontSelect d s = .next t) :
    Effect s i t := by
  have selected : ∃ c, SubCommands.Selects d c s :=
    ⟨_, selectFont_frame d (s.request (.fontSelect d))⟩
  obtain ⟨c, selects⟩ := selected
  obtain ⟨-, grid, rfl⟩ := fontSelect_next h
  rw [selects] at grid ⊢
  exact .font i d c eight selects grid

theorem effect_of_reportFailure {n : Byte} (h : reportFailure (s.raise (.unsupportedMode n)) = .next t) :
    Effect s (.mode n) t := by
  obtain ⟨frame, es, grows⟩ := enqueueAll_frame h
  rw [frame]
  refine .queues n t.queue t.trace ?_ fun legal => ?_
  · exact ⟨.outcome (.unsupportedMode n) :: es, by rw [grows, raise_trace, List.append_assoc, List.singleton_append]⟩
  · obtain ⟨u, -, next, -, ok, -⟩ := Queue.enqueueAll_spec failureText (s := s.raise (.unsupportedMode n)) legal
    obtain rfl : u = t := Host.Outcome.next.inj (next.symm.trans h)
    rw [frame] at ok
    exact ok

theorem effect_tintWrite (which v : Byte) : Effect s i (tintWrite which v s) := by
  rw [tintWrite]
  split
  case h_5 => exact .records i s.trace List.prefix_rfl
  all_goals exact .colours i _ s.trace List.prefix_rfl

theorem effect_of_subCommand {k : SubKind} {n d0 d1 : Byte} {d : List Byte} (eight : d.length = fontParamCount)
    (command : CanSwitch i) (h : subCommand k n d0 d1 d s = .next t) : Effect s i t := by
  cases k
  case fontSelect => exact effect_of_fontSelect eight h
  case modeDefine => exact effect_of_modeSwitch (m := .custom) (p := some d) command h
  all_goals cases h
  case defineGlyph => exact .records i _ (List.prefix_append _ _)
  case cursorEnable => exact .enables i _
  case tint => exact effect_tintWrite _ _
  case spriteSelect => exact .sprite i _
  case spriteDefine => exact .records i _ (List.prefix_append _ _)
  case unknown =>
    rw [Extended.unknownSub_eq]
    exact .records i _ (List.prefix_append _ _)

end

/-- Every command has one of the effects. -/
theorem exec_effect {i : Instr} {s t : State} (h : exec i s = .next t) : Effect s i t := by
  have textMoves : (i ∈ [.left, .right, .down, .up, .cls, .cr, .home, .del] ∨ ∃ x y, i = .tab x y) → Effect s i t := by
    intro command
    obtain ⟨u, runs, move⟩ := TextMotion.exec_textMove (s := s) command
    exact .of_exec h runs (.of_textMove move)
  cases i
  case nul | vdu1 | vdu2 | vdu3 | vdu6 | vdu7 | vdu14 | vdu15 | vdu21 =>
    exact .of_exec h rfl (.records _ s.trace List.prefix_rfl)
  case left | right | down | up | cls | cr | home | del => exact textMoves (.inl (by simp))
  case tab x y => exact textMoves (.inr ⟨x, y, rfl⟩)
  case vdu4 => exact .of_exec h rfl (.binds false)
  case vdu5 => exact .of_exec h rfl (.binds true)
  case gleft => exact .of_exec h rfl (.of_point (gfxLeft_frame s))
  case gright => exact .of_exec h rfl (.of_point (gfxRight_frame s))
  case gdown => exact .of_exec h rfl (.of_point (gfxDown_frame s))
  case gup => exact .of_exec h rfl (.of_point (gfxUp_frame s))
  case gcr | ghome => exact .of_exec h rfl (.of_point rfl)
  case gcls => exact .of_exec h rfl (.point _ _ _ (List.prefix_append _ _))
  case gtab x y =>
    rw [GraphicsMotion.exec_gtab] at h
    dsimp only at h
    split at h
    · cases h
      exact .of_point rfl
    · cases h
      exact .records _ _ (List.prefix_append _ _)
  case gdel =>
    obtain ⟨-, -, -, -, u, -, erases⟩ := GraphicsMotion.graphicsClearHomeAndDelete s
    exact .of_exec h erases (.point _ _ _ (List.prefix_append _ _))
  case clg => exact .of_exec h rfl (.records _ _ (List.prefix_append _ _))
  case colour c =>
    refine .of_exec h (Colours.exec_colour c s) ?_
    split <;> exact .colours _ _ s.trace List.prefix_rfl
  case gcol k c =>
    refine .of_exec h (Colours.exec_gcol k c s) ?_
    split <;> exact .colours _ _ s.trace List.prefix_rfl
  case palette => exact .of_exec h rfl (.records _ _ (List.prefix_append _ _))
  case defcol => exact .of_exec h rfl (.colours _ _ _ (List.prefix_append _ _))
  case mode n =>
    cases supported : modeRow s.params n with
    | some row => exact effect_of_modeSwitch (.inl ⟨n, rfl⟩) ((ModeSwitch.exec_mode_of_supported supported).symm.trans h)
    | none =>
      change execMode n s = _ at h
      rw [execMode, supported] at h
      exact effect_of_reportFailure h
  case vdu23 n d0 d1 d2 d3 d4 d5 d6 d7 =>
    cases kind : subKind s.params n with
    | some k =>
      rw [Extended.exec_vdu23_of_subKind kind] at h
      exact effect_of_subCommand rfl (.inr ⟨n, d0, d1, d2, d3, d4, d5, d6, d7, rfl⟩) h
    | none =>
      rw [SubCommands.exec_vdu23_of_none kind] at h
      cases h
  case gwindow l b r t =>
    rw [Windows.exec_gwindow] at h
    dsimp only at h
    split at h
    case isTrue valid =>
      cases h
      exact .gfxWindow _ _ valid
    case isFalse =>
      cases h
      exact .records _ _ (List.prefix_append _ _)
  case plot k x y =>
    by_cases code : plotSel k = 0
    · exact .of_exec h (Windows.exec_plot_moves code x y s) (.plots k x y _ s.trace List.prefix_rfl)
    · exact .of_exec h (Windows.exec_plot_draws code rfl x y) (.plots k x y _ _ (List.prefix_append _ _))
  case defwin => exact .of_exec h rfl (.defaults _)
  case esc e =>
    cases key : editDir s.params.editKeys e with
    | some d => exact .of_exec h (TextMotion.exec_esc_of_editDir key) (effect_editKey d)
    | none => exact .of_exec h (TextMotion.exec_esc_of_none key) (effect_paintAt e)
  case twindow l b r t =>
    by_cases fits : twValid s.scr ⟨l.toNat, b.toNat, r.toNat, t.toNat⟩ = true
    · refine .of_exec h (Windows.exec_twindow_of_valid fits) ?_
      have corner : inside ⟨l.toNat, b.toNat, r.toNat, t.toNat⟩ ⟨l.toNat, t.toNat⟩ = true := by
        obtain ⟨columns, -, rows, -⟩ := twValid_iff.1 fits
        exact inside_iff.2 ⟨le_rfl, columns, le_rfl, rows⟩
      refine .textWindow _ _ _ _ fits ?_ fun on => ?_
      · split
        case isTrue kept => exact kept
        case isFalse => exact corner
      · rw [on, Bool.true_and]
        split
        case isTrue => exact corner
        case isFalse kept => simpa using kept
    · exact .of_exec h (Windows.exec_twindow_of_not_valid fits) (.records _ _ (List.prefix_append _ _))
  case origin => exact .of_exec h rfl (.origin _ _)
  case print c => exact .of_exec h rfl (effect_paintAt c)

/-! ### Rules about every command -/

section
variable {s t : State} {i : Instr}

/-- Only a mode switch writes the marker (log 15). -/
theorem Effect.reinit (h : Effect s i t) : t.reinit = s.reinit ∨ t.reinit = true ∧ CanSwitch i := by
  cases h with
  | switches _ _ _ _ _ _ command => exact .inr ⟨rfl, command⟩
  | _ => exact .inl rfl

/-- Only a mode switch leaves edit mode (41_cursor.md R157). -/
theorem Effect.edit (h : Effect s i t) (on : s.edit = true) : t.edit = true ∨ t.reinit = true := by
  cases h
  case switches => exact .inr rfl
  case edits => exact .inl rfl
  all_goals exact .inl on

theorem Effect.history (h : Effect s i t) :
    (∃ k x y, i = .plot k x y) ∨ t.reinit = true ∨ (t.g1 = s.g1 ∧ t.g2 = s.g2) := by
  cases h
  case plots k x y _ _ _ => exact .inl ⟨k, x, y, rfl⟩
  case switches => exact .inr (.inl rfl)
  all_goals exact .inr (.inr ⟨rfl, rfl⟩)

theorem Effect.bindings (h : Effect s i t) :
    i = .vdu4 ∨ i = .vdu5 ∨ t.reinit = true ∨ (t.dt = s.dt ∧ t.vdu5 = s.vdu5) := by
  cases h
  case binds v =>
    cases v
    · exact .inl rfl
    · exact .inr (.inl rfl)
  case switches => exact .inr (.inr (.inl rfl))
  all_goals exact .inr (.inr (.inr ⟨rfl, rfl⟩))

theorem Effect.outside (h : Effect s i t) :
    t.params = s.params ∧ t.framer = s.framer ∧ t.flashCnt = s.flashCnt ∧ t.vsync = s.vsync ∧ t.agents = s.agents ∧
      ((∃ n, i = .mode n) ∨ t.queue = s.queue) := by
  cases h
  case queues n _ _ _ _ => exact ⟨rfl, rfl, rfl, rfl, rfl, .inl ⟨n, rfl⟩⟩
  all_goals exact ⟨rfl, rfl, rfl, rfl, rfl, .inr rfl⟩

/-- Every effect only adds to the record (log 4). -/
theorem Effect.grows (h : Effect s i t) : s.trace <+: t.trace := by
  cases h
  case font d c _ _ _ =>
    rw [SubCommands.fontLoaded_eq]
    exact List.prefix_append _ _
  case switches =>
    rw [switched, List.append_assoc]
    exact List.prefix_append _ _
  case records | text | point | plots | colours | queues => assumption
  all_goals exact List.prefix_rfl

end

/-- Settles O54, from the effects that touch edit mode and the marker. -/
theorem editModeEndsOnlyAtAModeSwitch : Obligations.EditModeEndsOnlyAtAModeSwitch := by
  intro i s t running on next
  have effect := exec_effect next
  refine ⟨effect.edit on, fun restarted => ?_⟩
  obtain kept | ⟨-, command⟩ := effect.reinit
  · simp [kept, running] at restarted
  · exact command

/-- Settles O55: of the effects, the push and the mode switch write the older points. -/
theorem historyIsPushedByPlotOnly : Obligations.HistoryIsPushedByPlotOnly :=
  fun _ _ _ _ next => (exec_effect next).history

/-- Settles O56: of the effects, the two bindings and the mode switch write the entries. -/
theorem bindingChangesOnlyByThreeCommands : Obligations.BindingChangesOnlyByThreeCommands :=
  fun _ _ _ _ next => (exec_effect next).bindings

/-- Settles O57: no effect writes these fields, and one writes the queue, that of VDU 22. -/
theorem noCommandTouchesTheTickOrTheFramer : Obligations.NoCommandTouchesTheTickOrTheFramer :=
  fun _ _ _ next => (exec_effect next).outside

end Sys2Proof.Proofs.Effects
end

-- ==== Proofs of the ticks, the vsync gate and the query port (60_exceptions.md) ====
section
namespace Sys2Proof.Proofs.Ticks

open Sys2Proof Sys2Proof.Machine

/-! ### The counters (R268, R269) -/

theorem blink_of_lt {s : State} (h : s.blinkCnt + 1 < blinkThreshold s) :
    blink s = { s with blinkCnt := s.blinkCnt + 1 } := if_neg h.not_ge

theorem blink_of_le_disabled {s : State} (h : blinkThreshold s ≤ s.blinkCnt + 1) (off : s.cursorEnabled = false) :
    blink s = { s with blinkCnt := 0 } := by
  rw [blink, if_pos h]
  simp [off]

theorem blink_of_le_enabled {s : State} (h : blinkThreshold s ≤ s.blinkCnt + 1) (on : s.cursorEnabled = true) :
    blink s = { s with blinkCnt := 0, fcVisible := !s.fcVisible,
                       trace := s.trace ++ [.request (.smXorCell (flashRect s))] } := by
  rw [blink, if_pos h]
  simp only [on, if_true]
  rfl

theorem flash_of_lt {s : State} (h : s.flashCnt + 1 < s.params.flashPeriod) :
    flash s = { s with flashCnt := s.flashCnt + 1 } := if_neg h.not_ge

theorem flash_of_le {s : State} (h : s.params.flashPeriod ≤ s.flashCnt + 1) :
    flash s = { s with flashCnt := 0, trace := s.trace ++ [.request .smFlashSwap] } := if_pos h

/-- Settles O49: each clause is one branch of its counter. -/
theorem countersFireAtTheirThresholds : Obligations.CountersFireAtTheirThresholds := by
  intro s n
  exact ⟨blink_of_lt, blink_of_le_disabled, blink_of_le_enabled, flash_of_lt, flash_of_le⟩

/-- The counters do not look at the agents. -/
theorem flash_blink_agents (s : State) (a : Agents) :
    flash (blink { s with agents := a }) = { flash (blink s) with agents := a } := by
  have blinks : blink { s with agents := a } = { blink s with agents := a } := by
    obtain ⟨below, h⟩ | ⟨at_, on, h⟩ | ⟨at_, off, h⟩ := blink_cases s
    · rw [h]
      exact blink_of_lt below
    · rw [h]
      exact blink_of_le_enabled at_ on
    · rw [h]
      exact blink_of_le_disabled at_ off
  rw [blinks]
  obtain ⟨below, h⟩ | ⟨at_, h⟩ := flash_cases (blink s)
  · rw [h]
    exact flash_of_lt below
  · rw [h]
    exact flash_of_le at_

theorem blink_frame (s : State) : blink s =
    { s with blinkCnt := (blink s).blinkCnt, fcVisible := (blink s).fcVisible, trace := (blink s).trace } := by
  obtain ⟨-, h⟩ | ⟨-, -, h⟩ | ⟨-, -, h⟩ := blink_cases s
  · rw [h]
  · rw [h]
    rfl
  · rw [h]

theorem flash_frame (s : State) : flash s = { s with flashCnt := (flash s).flashCnt, trace := (flash s).trace } := by
  obtain ⟨-, h⟩ | ⟨-, h⟩ := flash_cases s
  · rw [h]
  · rw [h]
    rfl

/-! ### A tick (R265, R267, R270) -/

/-- An arriving tick is served once startup has completed. -/
theorem takeTurn_tick {s : State} (started : s.scr.mode ≠ .noMode) : takeTurn .tick s = .next (tickArrives s) :=
  if_neg started

theorem tickArrives_of_idle {s : State} (place : s.agents.consumer = .idle) :
    tickArrives s = s.setConsumer .draining := if_pos place

theorem tickArrives_of_busy {s : State} (place : s.agents.consumer ≠ .idle) :
    tickArrives s = { s with agents := { s.agents with tickPending := true } } := if_neg place

/-- With nothing else to move, the next tick arrives (log 5). -/
theorem step_of_idle {s : State} (h : idle s) : step s = .next (s.setConsumer .draining) := by
  obtain ⟨noTurn, noWaiter, place, -, -, started⟩ := h
  have turn : nextTurn s = (.tick, s) := by simp only [nextTurn, noTurn, defaultTurn, if_neg noWaiter, if_pos place]
  rw [step, turn, takeTurn_tick started, tickArrives_of_idle place]

theorem step_of_empty {s : State} (moving : draining s) (empty : s.queue.count = 0) :
    step s = .next (s.setConsumer .counting) := by
  obtain ⟨noTurn, noWaiter, place⟩ := moving
  rw [step_consumer noTurn noWaiter (by rw [place]; exact Consumer.noConfusion), consumerStep_empty place empty]

theorem step_of_counting {s : State} (noTurn : s.agents.sched = [])
    (noWaiter : ¬(s.vsync = true ∧ 0 < s.agents.waiters)) :
    step (s.setConsumer .counting) = .next { flash (blink s) with agents :=
      { s.agents with consumer := if s.agents.tickPending then .draining else .idle, tickPending := false } } := by
  have moves : step (s.setConsumer .counting) = consumerStep (s.setConsumer .counting) :=
    step_consumer noTurn noWaiter Consumer.noConfusion
  have counters : flash (blink (s.setConsumer .counting)) =
      { flash (blink s) with agents := (s.setConsumer .counting).agents } := flash_blink_agents s _
  rw [moves, consumerStep_count rfl, counters]
  rfl

/-- Settles O51: the two steps that end a tick, and the three ways a tick arrives. -/
theorem ticksEndCoalesceAndArrive : Obligations.TicksEndCoalesceAndArrive := by
  intro s
  refine ⟨fun moving empty => ?ends, fun rest turn => ?arrives, step_of_idle⟩
  case ends =>
    refine ⟨step_of_empty moving empty, ?_⟩
    obtain ⟨noTurn, noWaiter, -⟩ := moving
    exact step_of_counting noTurn noWaiter
  case arrives =>
    let u : State := { s with agents := { s.agents with sched := rest } }
    have served : s.scr.mode ≠ .noMode → takeTurn .tick u = .next (tickArrives u) := takeTurn_tick (s := u)
    rw [Queue.step_of_sched turn]
    refine ⟨fun started place => ?_, fun started place => ?_, fun before => if_pos before⟩
    · exact (served started).trans (congrArg _ (tickArrives_of_idle (s := u) place))
    · exact (served started).trans (congrArg _ (tickArrives_of_busy (s := u) place))

/-! ### Two blink periods (R268) -/

/-- A tick with nothing queued is three steps: it arrives, finds the queue empty, and updates the counters. -/
theorem run_idle_tick {s : State} (k : Nat) (h : idle s) :
    Host.Core.run Sys2Proof.core (k + 3) s = Host.Core.run Sys2Proof.core k (flash (blink s)) := by
  obtain ⟨noTurn, noWaiter, place, noTick, empty, -⟩ := id h
  have moving : draining (s.setConsumer .draining) := ⟨noTurn, noWaiter, rfl⟩
  have ended : step ((s.setConsumer .draining).setConsumer .counting) = .next (flash (blink s)) := by
    have counters : flash (blink (s.setConsumer .draining)) =
        { flash (blink s) with agents := (s.setConsumer .draining).agents } := flash_blink_agents s _
    have kept : (flash (blink s)).agents = s.agents := by rw [flash_frame, blink_frame]
    rw [step_of_counting (s := s.setConsumer .draining) noTurn noWaiter, counters]
    simp only [setConsumer_agents, noTick, Bool.false_eq_true, if_false]
    rw [← noTick, ← place, ← kept]
  rw [Framing.run_of_step (step_of_idle h), Framing.run_of_step (step_of_empty moving empty), Framing.run_of_step ended]

theorem idle_flash_blink {s : State} (h : idle s) : idle (flash (blink s)) := by
  rw [flash_frame, blink_frame]
  exact h

/-- What one tick does to the flashing cursor, where it is enabled. -/
theorem blink_counts {s : State} (on : s.cursorEnabled = true) :
    (flash (blink s)).edit = s.edit ∧ (flash (blink s)).cursorEnabled = true ∧
    ((s.blinkCnt + 1 < blinkThreshold s ∧ (flash (blink s)).blinkCnt = s.blinkCnt + 1 ∧
        (flash (blink s)).fcVisible = s.fcVisible) ∨
      (blinkThreshold s ≤ s.blinkCnt + 1 ∧ (flash (blink s)).blinkCnt = 0 ∧
        (flash (blink s)).fcVisible = !s.fcVisible)) := by
  rw [flash_frame]
  obtain below | at_ := Nat.lt_or_ge (s.blinkCnt + 1) (blinkThreshold s)
  · rw [blink_of_lt below]
    exact ⟨rfl, on, .inl ⟨below, rfl, rfl⟩⟩
  · rw [blink_of_le_enabled at_ on]
    exact ⟨rfl, on, .inr ⟨at_, rfl, rfl⟩⟩

/-- After `k` ticks the counter has gone round `(blinkCnt + k) / N` times, with a toggle each time. -/
theorem run_idle_ticks (k : Nat) :
    ∀ {s : State}, idle s → s.cursorEnabled = true → s.blinkCnt < blinkThreshold s →
      ∃ t, Host.Core.run Sys2Proof.core (3 * k) s = .next t ∧ idle t ∧
        t.blinkCnt = (s.blinkCnt + k) % blinkThreshold s ∧
        t.fcVisible = (s.fcVisible ^^ decide ((s.blinkCnt + k) / blinkThreshold s % 2 = 1)) := by
  induction k with
  | zero =>
    intro s h on below
    refine ⟨s, rfl, h, ?_, ?_⟩
    · rw [Nat.add_zero, Nat.mod_eq_of_lt below]
    · rw [Nat.add_zero, Nat.div_eq_of_lt below]
      simp
  | succ k ih =>
    intro s h on below
    obtain ⟨edit, on', counted⟩ := blink_counts on
    have threshold : blinkThreshold (flash (blink s)) = blinkThreshold s := by rw [blinkThreshold, edit]; rfl
    have period : blinkThreshold s = 160 ∨ blinkThreshold s = 320 := by
      rw [blinkThreshold]
      split
      · exact .inl rfl
      · exact .inr rfl
    have below' : (flash (blink s)).blinkCnt < blinkThreshold (flash (blink s)) := by omega
    obtain ⟨t, runs, idleAfter, count, visible⟩ := ih (idle_flash_blink h) on' below'
    refine ⟨t, (run_idle_tick (3 * k) h).trans runs, idleAfter, ?_, ?_⟩
    · rw [count, threshold]
      obtain e | e := period <;> rw [e] at counted below ⊢ <;> omega
    · rw [visible, threshold]
      obtain ⟨_, cnt, shown⟩ | ⟨_, cnt, shown⟩ := counted
      · rw [cnt, shown, Nat.add_right_comm, Nat.add_assoc]
      · have rounds : (s.blinkCnt + (k + 1)) / blinkThreshold s = (0 + k) / blinkThreshold s + 1 := by
          have full : s.blinkCnt + (k + 1) = 0 + k + blinkThreshold s := by omega
          rw [full, Nat.add_div_right _ (by omega)]
        rw [cnt, shown, rounds]
        have parity : ∀ n, decide ((n + 1) % 2 = 1) = !decide (n % 2 = 1) := by
          intro n
          rw [← decide_not, decide_eq_decide]
          omega
        rw [parity, Bool.not_xor, Bool.xor_not]

/-- Settles O50: after `2N` ticks the counter is back and has toggled the cursor twice. -/
theorem twoBlinkPeriodsRestoreTheCursor : Obligations.TwoBlinkPeriodsRestoreTheCursor := by
  intro s h on below
  obtain ⟨t, runs, idleAfter, count, visible⟩ := run_idle_ticks (2 * blinkThreshold s) h on below
  have steps : 6 * blinkThreshold s = 3 * (2 * blinkThreshold s) := by omega
  rw [steps]
  refine ⟨t, runs, idleAfter, ?_, ?_⟩
  · rw [visible, Nat.add_mul_div_right _ _ (by omega), Nat.div_eq_of_lt below]
    simp
  · rw [count, Nat.add_mul_mod_self_right, Nat.mod_eq_of_lt below]

/-! ### The vsync gate (R276, R277) -/

theorem waitVsync_of_set {s : State} (set : s.vsync = true) : waitVsync s = takeVsync s := if_pos set

theorem waitVsync_of_clear {s : State} (clear : s.vsync = false) :
    waitVsync s = { s with agents := { s.agents with waiters := s.agents.waiters + 1 } } :=
  if_neg (by rw [clear]; exact Bool.false_ne_true)

theorem waiterTurn_of_set {s : State} (set : s.vsync = true) (held : 0 < s.agents.waiters) :
    waiterTurn s = takeVsync { s with agents := { s.agents with waiters := s.agents.waiters - 1 } } := if_pos ⟨set, held⟩

theorem waiterTurn_of_clear {s : State} (clear : s.vsync = false) : waiterTurn s = s :=
  if_neg fun h => absurd (clear.symm.trans h.1) Bool.false_ne_true

theorem step_of_waiter {s : State} (noTurn : s.agents.sched = []) (set : s.vsync = true) (held : 0 < s.agents.waiters) :
    step s = .next (waiterTurn s) := by
  have turn : nextTurn s = (.waiter, s) := by
    simp only [nextTurn, noTurn, defaultTurn, if_pos (And.intro set held)]
  rw [step, turn, takeTurn]

/-- Settles O52: the branches of the gate, and the turns that take them. -/
theorem vsyncGateHoldsUntilSet : Obligations.VsyncGateHoldsUntilSet := by
  intro s
  refine ⟨rfl, rfl, waitVsync_of_set, waitVsync_of_clear, waiterTurn_of_clear, waiterTurn_of_set, ?_, step_of_waiter⟩
  intro turn rest scheduled s'
  rw [Queue.step_of_sched scheduled]
  refine ⟨?_, ?_, ?_⟩
  all_goals
    rintro rfl
    rfl

/-! ### The query port (R273, R274) -/

theorem answerQuery_of_none {q : Query} {s : State} (own : queryCell q s = none) :
    answerQuery q s = s.emit (.reply q (queryValue q 0 s)) := by
  rw [answerQuery, own]

theorem answerQuery_of_some {q : Query} {s : State} {p : TextPos} (asks : queryCell q s = some p) :
    answerQuery q s =
      (s.request (.smReadChar p.x p.y)).emit (.reply q (queryValue q (s.readChar p) s)) := by
  rw [answerQuery, asks]

/-- A query looks at the block's registers, not at the record. -/
theorem queryValue_trace (q : Query) (c : Byte) (s : State) (tr : List Event) :
    queryValue q c { s with trace := tr } = queryValue q c s := by
  cases q
  all_goals rfl

theorem queryCell_trace (q : Query) (s : State) (tr : List Event) : queryCell q { s with trace := tr } = queryCell q s := by
  cases q
  all_goals rfl

/-- What a query adds to the record is no request that can change what a collaborator shows (20_memory.md R68, R69). -/
theorem drawnRequests_append_query (es : List Event) (col row : Nat) (q : Query) (a : Reply) :
    drawnRequests (es ++ [.request (.smReadChar col row)] ++ [.reply q a]) = drawnRequests es := by
  induction es with
  | nil => rfl
  | cons e es ih =>
    cases e
    case request r =>
      cases r
      case smReadChar => exact ih
      all_goals exact congrArg (List.cons _) ih
    all_goals exact ih

/-- A query changes the record only, and the last thing it adds is its reply; asked again it replies the same. -/
theorem answerQuery_reply (q : Query) (s : State) :
    onlyTrace s (answerQuery q s) ∧
    ∃ a, (answerQuery q s).trace.getLast? = some (.reply q a) ∧
      (answerQuery q (answerQuery q s)).trace.getLast? = some (.reply q a) := by
  cases cell : queryCell q s with
  | none =>
    have again : queryCell q (s.emit (.reply q (queryValue q 0 s))) = none := (queryCell_trace q s _).trans cell
    have same : queryValue q 0 (s.emit (.reply q (queryValue q 0 s))) = queryValue q 0 s := queryValue_trace q 0 s _
    rw [answerQuery_of_none cell, answerQuery_of_none again, same]
    exact ⟨rfl, _, List.getLast?_concat, List.getLast?_concat⟩
  | some p =>
    have asked := answerQuery_of_some cell
    have frame : answerQuery q s = { s with trace := (answerQuery q s).trace } := by rw [asked]; rfl
    have again : queryCell q (answerQuery q s) = some p := by rw [frame, queryCell_trace, cell]
    have sameChar : (answerQuery q s).readChar p = s.readChar p := by
      rw [asked]
      exact congrArg (freeChar · p) (drawnRequests_append_query s.trace p.x p.y q _)
    have same : queryValue q (s.readChar p) (answerQuery q s) = queryValue q (s.readChar p) s := by
      rw [frame, queryValue_trace]
    refine ⟨frame, queryValue q (s.readChar p) s, ?_, ?_⟩
    · rw [asked]
      exact List.getLast?_concat
    · rw [answerQuery_of_some again, sameChar, same]
      exact List.getLast?_concat

/-- A character query records its read and its reply. -/
theorem answerQuery_char {q : Query} {s : State} {p : TextPos} (asks : queryCell q s = some p)
    (char : queryValue q (s.readChar p) s = .char (s.readChar p)) :
    answerQuery q s = { s with trace := s.trace ++
      [.request (.smReadChar p.x p.y), .reply q (.char (s.readChar p))] } := by
  rw [answerQuery_of_some asks, char, State.emit, request_trace, List.append_assoc, List.singleton_append]
  rfl

/-- Settles O53: `answerQuery_reply`, and the value of each query read off its definition. -/
theorem queriesChangeNoState : Obligations.QueriesChangeNoState := by
  intro s q
  obtain ⟨frame, reply⟩ := answerQuery_reply q s
  refine ⟨frame, reply, ?turn, ?own, answerQuery_char rfl rfl, answerQuery_char rfl rfl, rfl, rfl, rfl, rfl, rfl, rfl, rfl,
    rfl, rfl, rfl, rfl, rfl, rfl, rfl⟩
  case turn =>
    intro rest scheduled
    rw [Queue.step_of_sched scheduled]
    rfl
  case own =>
    intro notText notEdit
    have own : queryCell q s = none := by
      cases q
      case charAtText => exact absurd rfl notText
      case charAtEdit => exact absurd rfl notEdit
      all_goals rfl
    rw [answerQuery_of_none own]
    rfl

end Sys2Proof.Proofs.Ticks
end

-- ==== Proofs of the rules of the whole machine: every step ====
section
namespace Sys2Proof.Proofs.Invariant

open Sys2Proof Sys2Proof.Machine Sys2Proof.Proofs.Effects

/-! ### What a step can do -/

theorem afterStartup_next {s t : State} {r : Result} (h : afterStartup s r = .next t) : r = .next t := by
  rw [afterStartup] at h
  split at h
  · cases h
  · exact h

/-- A framed byte is kept, or its command is run, in a state that differs in the framer only (R102). -/
theorem frame_next {b : Byte} {s t : State} (h : frame b s = .next t) :
    ∃ f : Framer, t = { s with framer := f } ∨ ∃ i, runCommand i { s with framer := f } = .next t := by
  have executes : ∀ {f : Framer}, execute { s with framer := f } = .next t →
      ∃ f : Framer, t = { s with framer := f } ∨ ∃ i, runCommand i { s with framer := f } = .next t := by
    intro f ran
    rw [execute] at ran
    split at ran
    · exact ⟨f, .inr ⟨_, ran⟩⟩
    · cases ran
  rw [frame] at h
  split at h
  case h_1 =>
    rw [frameOpcode] at h
    dsimp only at h
    split at h
    · exact executes h
    · cases h
      exact ⟨_, .inl rfl⟩
  case h_2 =>
    rw [frameArgument] at h
    dsimp only at h
    split at h
    · split at h
      · exact executes h
      · cases h
        exact ⟨_, .inl rfl⟩
    · cases h

/-! ### The record (log 4) -/

theorem runCommand_grows {i : Instr} {s t : State} (h : runCommand i s = .next t) : s.trace <+: t.trace := by
  obtain ⟨u, next, rfl⟩ := runCommand_next.1 h
  have hides : s.trace <+: (cursorHide { s with reinit := false }).trace := by
    rw [Framing.cursorHide_paints, List.append_assoc]
    exact List.prefix_append _ _
  have restores : u.trace <+: (cursorRestore s.fcVisible u).trace := by
    obtain ⟨-, restored⟩ | ⟨running, -⟩ := cursorRestore_cases s.fcVisible u
    · rw [restored]
    · rw [Framing.cursorRestore_paints running, List.append_assoc]
      exact List.prefix_append _ _
  exact (hides.trans (exec_effect next).grows).trans restores

theorem consumerStep_grows {s t : State} (h : consumerStep s = .next t) : s.trace <+: t.trace := by
  cases place : s.agents.consumer with
  | idle =>
    simp only [consumerStep, place] at h
    cases h
    exact List.prefix_rfl
  | draining =>
    simp only [consumerStep, place, drainStep] at h
    split at h
    · cases h
      exact List.prefix_rfl
    · obtain ⟨-, popped⟩ | ⟨-, faults⟩ := pop_cases s
      · rw [popped] at h
        cases h
        exact List.prefix_rfl
      · rw [faults] at h
        cases h
  | framing b =>
    rw [consumerStep_frame place] at h
    obtain ⟨f, rfl | ⟨i, ran⟩⟩ := frame_next h
    · exact List.prefix_rfl
    · exact runCommand_grows (s := { s.setConsumer .draining with framer := f }) ran
  | counting =>
    rw [consumerStep_count place] at h
    cases h
    have blinks : s.trace <+: (blink s).trace := by
      obtain ⟨-, h⟩ | ⟨-, -, h⟩ | ⟨-, -, h⟩ := blink_cases s
      · rw [h]
      · rw [h, toggleFlash_eq]
        exact List.prefix_append _ _
      · rw [h]
    have flashes : (blink s).trace <+: (flash (blink s)).trace := by
      obtain ⟨-, h⟩ | ⟨-, h⟩ := flash_cases (blink s)
      · rw [h]
      · rw [h]
        exact List.prefix_append _ _
    exact blinks.trans flashes

theorem takeTurn_grows {turn : Turn} {s t : State} (h : takeTurn turn s = .next t) : s.trace <+: t.trace := by
  cases turn with
  | byteIn b =>
    obtain ⟨-, es, grows⟩ := enqueue_frame (afterStartup_next h)
    exact ⟨es, grows.symm⟩
  | tick =>
    cases afterStartup_next h
    rw [tickArrives]
    split <;> exact List.prefix_rfl
  | vsync =>
    cases h
    exact List.prefix_rfl
  | waitVsync =>
    cases h
    rw [waitVsync]
    split
    · exact List.prefix_append _ _
    · exact List.prefix_rfl
  | waiter =>
    cases h
    rw [waiterTurn]
    split
    · exact List.prefix_append _ _
    · exact List.prefix_rfl
  | query q =>
    cases h
    cases cell : queryCell q s with
    | none =>
      rw [Ticks.answerQuery_of_none cell]
      exact List.prefix_append _ _
    | some p =>
      rw [Ticks.answerQuery_of_some cell, emit_trace, request_trace, List.append_assoc]
      exact List.prefix_append _ _
  | consumer => exact consumerStep_grows h

/-- Taking the turn off the schedule changes the schedule only (log 5). -/
theorem nextTurn_frame (s : State) : ∃ rest, (nextTurn s).2 = { s with agents := { s.agents with sched := rest } } := by
  rw [nextTurn]
  split
  · exact ⟨_, rfl⟩
  · exact ⟨s.agents.sched, rfl⟩

/-- Settles O58, turn by turn. -/
theorem theTraceOnlyGrows : Obligations.TheTraceOnlyGrows := by
  intro s t next
  obtain ⟨rest, taken⟩ := nextTurn_frame s
  obtain ⟨es, grows⟩ := takeTurn_grows next
  rw [taken] at grows
  exact ⟨es, grows.symm⟩

/-! ### The invariant while a handler runs -/

/-- What holds of the state of a handler: the machine's invariant with both cursors hidden and the framer awaiting an
opcode, but for the marker of a mode switch (log 15). -/
structure Hidden (s : State) : Prop where
  cap : capOk s.params
  queue : queueOk s
  binding : bindingOk s
  scratch : s.framer.buf.length = fbufLen
  awaiting : s.framer.state = .awaitingOpcode
  text : textOk s
  gfx : gfxOk s
  counters : countersOk s
  agents : agentsOk s
  font : fontOk s
  started : s.scr.mode ≠ .noMode
  flash : s.fcVisible = false
  block : s.bcVisible = false

theorem hidden_cursorHide {s : State} (inv : s.Inv) (awaiting : s.framer.state = .awaitingOpcode) :
    Hidden (cursorHide { s with reinit := false }) := by
  obtain ⟨cap, queue, binding, ⟨scratch, -⟩, text, gfx, -, counters, agents, font, -, started⟩ := inv
  rw [cursorHide_eq]
  exact ⟨cap, queue, binding, scratch, awaiting, text, gfx, counters, agents, font, started, rfl, rfl⟩

/-- Restoring the cursors gives the painted-cursor rule back (41_cursor.md R163, R164). -/
theorem inv_cursorRestore {s : State} (h : Hidden s) (restart : s.reinit = true → s.edit = false) (vis : Bool) :
    (cursorRestore vis s).Inv := by
  obtain ⟨cap, queue, binding, scratch, awaiting, text, gfx, counters, agents, font, started, flash, block⟩ := h
  have framer : framerOk s := ⟨scratch, fun buffering => FState.noConfusion (awaiting.symm.trans buffering)⟩
  obtain ⟨restarted, restored⟩ | ⟨running, restored⟩ := cursorRestore_cases vis s
  · have paint : paintOk { s with reinit := false } :=
      ⟨block.trans (restart restarted).symm, fun shown => absurd (flash.symm.trans shown) Bool.false_ne_true⟩
    rw [restored]
    exact ⟨cap, queue, binding, framer, text, gfx, paint, counters, agents, font, rfl, started⟩
  · have flashes : (s.fcVisible ^^ (vis && s.cursorEnabled)) = true → s.cursorEnabled = true := by
      rw [flash, Bool.false_xor, Bool.and_eq_true]
      exact And.right
    have blocks : (s.bcVisible ^^ s.edit) = s.edit := by rw [block, Bool.false_xor]
    rw [restored]
    exact ⟨cap, queue, binding, framer, text, gfx, ⟨blocks, flashes⟩, counters, agents, font, running, started⟩

/-- The Font collaborator keeps its eight parameters (44_mode_ext.md R243). -/
theorem fontParams_of_selects {d : List Byte} {c : Collab} {s : State} (eight : d.length = fontParamCount)
    (before : s.collab.fontParams.length = fontParamCount) (selects : SubCommands.Selects d c s) :
    c.fontParams.length = fontParamCount := by
  obtain ⟨-, kept⟩ | ⟨-, m, rest, -, applied⟩ := selectFont_cases d (s.request (.fontSelect d))
  · obtain rfl : s.collab = c := congrArg State.collab (kept.symm.trans selects)
    exact before
  · have params : applyFontParams s.collab.fontParams d = c.fontParams :=
      congrArg (fun t => t.collab.fontParams) (applied.symm.trans selects)
    rw [← params, applyFontParams, List.length_zipWith, before, eight, Nat.min_self]

/-- Every effect of a command keeps the invariant of the handlers. -/
theorem Hidden.effect {s t : State} {i : Instr} (h : Hidden s) (e : Effect s i t) : Hidden t := by
  obtain ⟨grid, valid, txt, ed⟩ := h.text
  cases e with
  | records => exact { h with }
  | text _ p tr grows stays => exact { h with text := ⟨grid, valid, stays txt, ed⟩ }
  | point => exact { h with }
  | plots => exact { h with }
  | colours => exact { h with }
  | binds v => exact { h with binding := rfl }
  | edits _ p stays =>
    have start : inside s.tw (if s.edit then s.ed else s.txt) = true := by
      split
      case isTrue on => exact ed on
      case isFalse => exact txt
    exact { h with text := ⟨grid, valid, txt, fun _ => stays start⟩ }
  | gfxWindow _ w valid => exact { h with gfx := fun _ _ => valid }
  | textWindow _ w p q valid txt ed => exact { h with text := ⟨grid, valid, txt, ed⟩ }
  | defaults => exact { h with text := Windows.textOk_defaultWindows h.text, gfx := Windows.gwValid_fullScreen }
  | origin => exact { h with }
  | enables => exact { h with }
  | sprite => exact { h with }
  | font _ d c eight selects grid =>
    obtain ⟨-, -, before⟩ := h.font
    exact { h with
      text := (Windows.textOk_reclampText grid).1
      font := ⟨rfl, rfl, fontParams_of_selects eight before selects⟩ }
  | queues n q tr grows legal => exact { h with queue := legal h.queue }
  | switches _ m p g d c command named grid metrics params =>
    obtain ⟨-, flashCnt⟩ := h.counters
    exact { h with
      binding := rfl
      text := ⟨grid, Windows.twValid_fullScreen grid, Windows.inside_home _ _, Bool.noConfusion⟩
      gfx := Windows.gwValid_fullScreen
      counters := ⟨Nat.zero_le _, flashCnt⟩
      font := ⟨by rw [metrics]; rfl, by rw [metrics]; rfl, params⟩
      started := named
      flash := rfl
      block := rfl }

/-- A mode switch leaves edit mode off (44_mode_ext.md R236). -/
theorem edit_of_reinit {s t : State} {i : Instr} (running : s.reinit = false) (e : Effect s i t) :
    t.reinit = true → t.edit = false := by
  cases e with
  | switches => exact fun _ => rfl
  | _ => exact fun restarted => absurd (running.symm.trans restarted) Bool.false_ne_true

/-- A whole command keeps the invariant: hidden, executed, restored. -/
theorem inv_runCommand {i : Instr} {s t : State} (inv : s.Inv) (awaiting : s.framer.state = .awaitingOpcode)
    (h : runCommand i s = .next t) : t.Inv := by
  obtain ⟨u, next, rfl⟩ := runCommand_next.1 h
  have effect := exec_effect next
  have running : (cursorHide { s with reinit := false }).reinit = false := by rw [cursorHide_eq]
  exact inv_cursorRestore ((hidden_cursorHide inv awaiting).effect effect) (edit_of_reinit running effect) _

/-! ### The invariant, turn by turn -/

theorem inv_enqueue {b : Byte} {s t : State} (inv : s.Inv) (h : enqueue b s = .next t) : t.Inv := by
  obtain ⟨cap, queue, binding, framer, text, gfx, paint, counters, agents, font, running, started⟩ := inv
  obtain ⟨u, es, next, frame, ok, -⟩ := Queue.enqueue_spec b queue
  obtain rfl : u = t := Host.Outcome.next.inj (next.symm.trans h)
  rw [frame] at ok ⊢
  exact ⟨cap, ok, binding, framer, text, gfx, paint, counters, agents, font, running, started⟩

/-- The consumer's place and the pending tick may change as long as no tick is pending without one running (R267). -/
theorem inv_agents {s : State} {a : Agents} (inv : s.Inv) (ok : a.tickPending = true → a.consumer ≠ .idle) :
    { s with agents := a }.Inv := by
  obtain ⟨cap, queue, binding, framer, text, gfx, paint, counters, -, font, running, started⟩ := inv
  exact ⟨cap, queue, binding, framer, text, gfx, paint, counters, ok, font, running, started⟩

theorem inv_setConsumer {s : State} {c : Consumer} (inv : s.Inv) (inTick : c ≠ .idle) : (s.setConsumer c).Inv :=
  inv_agents inv fun _ => inTick

theorem inv_tickArrives {s : State} (inv : s.Inv) : (tickArrives s).Inv := by
  by_cases place : s.agents.consumer = .idle
  · rw [Ticks.tickArrives_of_idle place]
    exact inv_setConsumer inv Consumer.noConfusion
  · rw [Ticks.tickArrives_of_busy place]
    exact inv_agents inv fun _ => place

theorem inv_blink {s : State} (inv : s.Inv) : (blink s).Inv := by
  obtain ⟨cap, queue, binding, framer, text, gfx, ⟨block, flash⟩, ⟨blinkCnt, flashCnt⟩, agents, font, running, started⟩ :=
    inv
  have threshold : blinkThreshold s ≤ blinkNormal := by
    rw [blinkThreshold]
    split <;> decide
  obtain ⟨below, h⟩ | ⟨-, on, h⟩ | ⟨-, -, h⟩ := blink_cases s
  · rw [h]
    exact ⟨cap, queue, binding, framer, text, gfx, ⟨block, flash⟩, ⟨below.le.trans threshold, flashCnt⟩, agents, font,
      running, started⟩
  · rw [h]
    exact ⟨cap, queue, binding, framer, text, gfx, ⟨block, fun _ => on⟩, ⟨Nat.zero_le _, flashCnt⟩, agents, font,
      running, started⟩
  · rw [h]
    exact ⟨cap, queue, binding, framer, text, gfx, ⟨block, flash⟩, ⟨Nat.zero_le _, flashCnt⟩, agents, font, running,
      started⟩

theorem inv_flash {s : State} (inv : s.Inv) : (flash s).Inv := by
  obtain ⟨cap, queue, binding, framer, text, gfx, paint, ⟨blinkCnt, -⟩, agents, font, running, started⟩ := inv
  obtain ⟨below, h⟩ | ⟨-, h⟩ := flash_cases s
  · rw [h]
    exact ⟨cap, queue, binding, framer, text, gfx, paint, ⟨blinkCnt, below.le⟩, agents, font, running, started⟩
  · rw [h]
    exact ⟨cap, queue, binding, framer, text, gfx, paint, ⟨blinkCnt, Nat.zero_le _⟩, agents, font, running, started⟩

theorem inv_pop {s : State} (inv : s.Inv) (nonempty : 0 < s.queue.count) : { s with queue := popped s 1 }.Inv := by
  obtain ⟨cap, queue, binding, framer, text, gfx, paint, counters, agents, font, running, started⟩ := inv
  exact ⟨cap, queueOk_popped queue nonempty rfl rfl, binding, framer, text, gfx, paint, counters, agents, font, running,
    started⟩

theorem inv_framer {s : State} {f : Framer} (inv : s.Inv) (ok : framerOk { s with framer := f }) :
    { s with framer := f }.Inv := by
  obtain ⟨cap, queue, binding, -, text, gfx, paint, counters, agents, font, running, started⟩ := inv
  exact ⟨cap, queue, binding, ok, text, gfx, paint, counters, agents, font, running, started⟩

/-- A framed byte runs a command from a state of the invariant, or leaves one. -/
theorem frame_of_inv {s : State} (inv : s.Inv) (b : Byte) :
    (∃ f : Framer, f.state = .awaitingOpcode ∧ { s with framer := f }.Inv ∧
      ∃ i, frame b s = runCommand i { s with framer := f }) ∨
    ∃ t : State, t.Inv ∧ frame b s = .next t := by
  obtain ⟨-, -, binding, framer, -⟩ := id inv
  obtain ⟨op, as, bytes, ⟨i, complete⟩ | ⟨short, truncated⟩⟩ := Framing.decode_framed_append framer b
  · refine .inl ⟨framerAfter s (framed s ++ [b]), rfl, inv_framer inv ⟨?_, FState.noConfusion⟩, i,
      frame_last binding framer complete⟩
    have bound := arglen_le op
    obtain ⟨op', as', bytes', length, notTooMany⟩ := Framing.framed_append framer b
    have bound' := arglen_le op'
    obtain ⟨scratch, -⟩ := framer
    simp only [framerAfter, List.length_append, List.length_singleton, List.length_drop, scratch, fbufLen]
    omega
  · exact .inr ⟨_, inv_framer inv (Framing.framerOk_buffered binding framer bytes short),
      Framing.frame_buffers binding framer truncated⟩

/-- Every step of the consumer answers from the invariant: a state of the invariant, or what a command answers in one. -/
theorem consumerStep_of_inv {s : State} (inv : s.Inv) :
    (∃ u : State, u.framer.state = .awaitingOpcode ∧ u.Inv ∧ ∃ i, consumerStep s = runCommand i u) ∨
    ∃ t : State, t.Inv ∧ consumerStep s = .next t := by
  cases place : s.agents.consumer with
  | idle => exact .inr ⟨s, inv, by simp only [consumerStep, place]⟩
  | draining =>
    obtain empty | nonempty := Nat.eq_zero_or_pos s.queue.count
    · exact .inr ⟨_, inv_setConsumer inv Consumer.noConfusion, consumerStep_empty place empty⟩
    · obtain ⟨-, queue, -⟩ := id inv
      obtain ⟨-, -, readCursor, -⟩ := id queue
      exact .inr ⟨_, inv_setConsumer (inv_pop inv nonempty) Consumer.noConfusion,
        consumerStep_pop queue place (unread_head readCursor nonempty)⟩
  | framing b =>
    rw [consumerStep_frame place]
    obtain ⟨f, awaiting, inv', i, ran⟩ | next :=
      frame_of_inv (inv_setConsumer (c := .draining) inv Consumer.noConfusion) b
    · exact .inl ⟨_, awaiting, inv', i, ran⟩
    · exact .inr next
  | counting =>
    exact .inr ⟨_, inv_agents (inv_flash (inv_blink inv)) Bool.noConfusion, consumerStep_count place⟩

/-- Every turn keeps the invariant. -/
theorem inv_takeTurn {turn : Turn} {s t : State} (inv : s.Inv) (h : takeTurn turn s = .next t) : t.Inv := by
  cases turn with
  | byteIn b => exact inv_enqueue inv (afterStartup_next h)
  | tick =>
    cases afterStartup_next h
    exact inv_tickArrives inv
  | vsync =>
    cases h
    exact inv
  | waitVsync =>
    cases h
    rw [waitVsync]
    split
    · exact inv
    · exact inv
  | waiter =>
    cases h
    rw [waiterTurn]
    split
    · exact inv
    · exact inv
  | query q =>
    cases h
    obtain ⟨frame, -⟩ := Ticks.answerQuery_reply q s
    rw [frame]
    exact inv
  | consumer =>
    obtain ⟨u, awaiting, inv', i, ran⟩ | ⟨v, inv', next⟩ := consumerStep_of_inv inv
    · exact inv_runCommand inv' awaiting (ran.symm.trans h)
    · obtain rfl : v = t := Host.Outcome.next.inj (next.symm.trans h)
      exact inv'

theorem inv_nextTurn {s : State} (inv : s.Inv) : (nextTurn s).2.Inv := by
  obtain ⟨rest, taken⟩ := nextTurn_frame s
  rw [taken]
  exact inv

/-- Settles O14: taking a turn off the schedule keeps the invariant, and so does every turn. -/
theorem everyStepKeepsTheInvariant : Obligations.EveryStepKeepsTheInvariant :=
  fun _ _ inv next => inv_takeTurn (inv_nextTurn inv) next

/-! ### No fault (log 21) -/

/-- Only the failure text writes the queue, and a legal queue takes every byte. -/
theorem exec_not_fault {s : State} (queue : queueOk s) (i : Instr) : notFault (exec i s) = true := by
  cases i
  case mode n =>
    cases supported : modeRow s.params n with
    | some row =>
      rw [ModeSwitch.exec_mode_of_supported supported]
      exact modeSwitch_not_fault _ _ _
    | none =>
      obtain ⟨t, -, next, -⟩ := Queue.enqueueAll_spec failureText (s := s.raise (.unsupportedMode n)) queue
      change notFault (execMode n s) = true
      rw [execMode, supported, reportFailure, next]
      rfl
  case vdu23 n d0 d1 d2 d3 d4 d5 d6 d7 =>
    cases kind : subKind s.params n with
    | some k =>
      rw [Extended.exec_vdu23_of_subKind kind]
      cases k
      case fontSelect => exact fontSelect_not_fault _ _
      case modeDefine => exact modeSwitch_not_fault .custom (some _) s
      all_goals rfl
    | none =>
      rw [SubCommands.exec_vdu23_of_none kind]
      rfl
  case colour c => rw [Colours.exec_colour]; rfl
  case gcol k c => rw [Colours.exec_gcol]; rfl
  case tab x y =>
    change notFault (execTab x y s) = true
    rw [execTab]
    split <;> rfl
  case gtab x y =>
    change notFault (execGtab x y s) = true
    rw [execGtab]
    split <;> rfl
  case gwindow l b r t =>
    change notFault (execGwindow l b r t s) = true
    rw [execGwindow]
    split <;> rfl
  case twindow l b r t =>
    change notFault (execTwindow l b r t s) = true
    rw [execTwindow]
    split <;> rfl
  case plot k x y =>
    change notFault (execPlot k x y s) = true
    rw [execPlot]
    split <;> rfl
  case esc e =>
    change notFault (execEsc e s) = true
    rw [execEsc]
    split <;> rfl
  all_goals rfl

theorem runCommand_not_fault {i : Instr} {s : State} (queue : queueOk s) : notFault (runCommand i s) = true := by
  have hidden : queueOk (cursorHide { s with reinit := false }) := by
    rw [cursorHide_eq]
    exact queue
  have safe := exec_not_fault hidden i
  rw [runCommand]
  cases ran : exec i (cursorHide { s with reinit := false }) with
  | next => rfl
  | refused => rfl
  | fault r =>
    rw [ran] at safe
    cases safe

theorem takeTurn_not_fault {turn : Turn} {s : State} (inv : s.Inv) : notFault (takeTurn turn s) = true := by
  cases turn with
  | byteIn b =>
    obtain ⟨-, queue, -⟩ := inv
    obtain ⟨t, -, next, -⟩ := Queue.enqueue_spec b queue
    rw [takeTurn, next, afterStartup]
    split <;> rfl
  | tick =>
    rw [takeTurn, afterStartup]
    split <;> rfl
  | consumer =>
    rw [takeTurn]
    obtain ⟨u, -, ⟨-, queue, -⟩, i, ran⟩ | ⟨t, -, next⟩ := consumerStep_of_inv inv
    · rw [ran]
      exact runCommand_not_fault queue
    · rw [next]
      rfl
  | vsync | waitVsync | waiter | query => rfl

/-- Settles O15: the turns that could fault meet a legal queue, and the framer answers as `frame_of_inv` says. -/
theorem noStepFaultsUnderTheInvariant : Obligations.NoStepFaultsUnderTheInvariant :=
  fun _ inv => takeTurn_not_fault (inv_nextTurn inv)

end Sys2Proof.Proofs.Invariant
end

-- ==== Proofs of the rules of the whole machine: what the text commands depend on ====
section
namespace Sys2Proof.Proofs.Noninterference

open Sys2Proof Sys2Proof.Machine Sys2Proof.Proofs.TextCursor Sys2Proof.Proofs.TextMotion

/-- The graphics registers (10_state.md R29, R33, R34, R35). -/
structure GfxRegs where
  gw : GfxWindow
  org : Point
  g0 : Point
  g1 : Point
  g2 : Point
  gfg : Byte
  gbg : Byte
  gfgAct : Byte
  gbgAct : Byte

/-- The same state with other graphics registers. -/
def withGfx (r : GfxRegs) (s : State) : State :=
  { s with
    gw := r.gw
    org := r.org
    g0 := r.g0
    g1 := r.g1
    g2 := r.g2
    col := { s.col with gfg := r.gfg, gbg := r.gbg, gfgAct := r.gfgAct, gbgAct := r.gbgAct } }

/-! ### The text primitives commute with a change of the graphics registers -/

section
variable (r : GfxRegs) (s : State)

theorem textDown_withGfx : textDown (withGfx r s) = withGfx r (textDown s) := by
  obtain above | bottom := Nat.lt_or_ge s.txt.y s.tw.b
  · rw [textDown_of_lt above]
    exact textDown_of_lt (s := withGfx r s) above
  · rw [textDown_of_le bottom]
    exact textDown_of_le (s := withGfx r s) bottom

theorem textUp_withGfx : textUp (withGfx r s) = withGfx r (textUp s) := by
  obtain below | top := Nat.lt_or_ge s.tw.t s.txt.y
  · rw [textUp_of_lt below]
    exact textUp_of_lt (s := withGfx r s) below
  · rw [textUp_of_le top]
    exact textUp_of_le (s := withGfx r s) top

theorem textRight_withGfx : textRight (withGfx r s) = withGfx r (textRight s) := by
  obtain inner | edge := Nat.lt_or_ge s.txt.x s.tw.r
  · rw [textRight_of_lt inner]
    exact textRight_of_lt (s := withGfx r s) inner
  · rw [textRight_of_le edge, ← textDown_withGfx]
    exact textRight_of_le (s := withGfx r s) edge

theorem textLeft_withGfx : textLeft (withGfx r s) = withGfx r (textLeft s) := by
  obtain inner | edge := Nat.lt_or_ge s.tw.l s.txt.x
  · rw [textLeft_of_lt inner]
    exact textLeft_of_lt (s := withGfx r s) inner
  · rw [textLeft_of_le edge, ← textUp_withGfx]
    exact textLeft_of_le (s := withGfx r s) edge

theorem paintAt_withGfx (c : Byte) (text : s.vdu5 = false) : paintAt c (withGfx r s) = withGfx r (paintAt c s) := by
  rw [paintAt_text c text, ← textRight_withGfx]
  exact paintAt_text (s := withGfx r s) c text

end

/-- A text command of the VDU 4 binding answers the same next state, whatever the graphics registers hold. -/
theorem exec_withGfx {i : Instr} {s : State} (r : GfxRegs)
    (command : i ∈ [.left, .right, .down, .up, .cls, .cr, .home, .del] ∨ (∃ x y, i = .tab x y) ∨ (∃ c, i = .print c) ∨
      ∃ l b r u, i = .twindow l b r u)
    (text : s.vdu5 = false) : ∃ t, exec i s = .next t ∧ exec i (withGfx r s) = .next (withGfx r t) := by
  obtain plain | ⟨x, y, rfl⟩ | ⟨c, rfl⟩ | ⟨l, b, right, u, rfl⟩ := command
  · simp only [List.mem_cons, List.not_mem_nil, or_false] at plain
    obtain rfl | rfl | rfl | rfl | rfl | rfl | rfl | rfl := plain
    · exact ⟨_, rfl, congrArg _ (textLeft_withGfx r s)⟩
    · exact ⟨_, rfl, congrArg _ (textRight_withGfx r s)⟩
    · exact ⟨_, rfl, congrArg _ (textDown_withGfx r s)⟩
    · exact ⟨_, rfl, congrArg _ (textUp_withGfx r s)⟩
    · exact ⟨_, rfl, rfl⟩
    · exact ⟨_, rfl, rfl⟩
    · exact ⟨_, rfl, rfl⟩
    · refine ⟨_, rfl, ?_⟩
      change execDel (withGfx r s) = _
      rw [execDel, textLeft_withGfx]
      rfl
  · by_cases hit : s.tw.l + x.toNat ≤ s.tw.r ∧ s.tw.t + y.toNat ≤ s.tw.b
    · exact ⟨_, exec_tab_of_mem hit.1 hit.2, exec_tab_of_mem (s := withGfx r s) hit.1 hit.2⟩
    · have out : s.tw.r < s.tw.l + x.toNat ∨ s.tw.b < s.tw.t + y.toNat := by omega
      exact ⟨_, exec_tab_of_not_mem out, exec_tab_of_not_mem (s := withGfx r s) out⟩
  · exact ⟨_, rfl, congrArg _ (paintAt_withGfx r s c text)⟩
  · by_cases fits : twValid s.scr ⟨l.toNat, b.toNat, right.toNat, u.toNat⟩ = true
    · exact ⟨_, Windows.exec_twindow_of_valid fits, Windows.exec_twindow_of_valid (s := withGfx r s) fits⟩
    · exact ⟨_, Windows.exec_twindow_of_not_valid fits, Windows.exec_twindow_of_not_valid (s := withGfx r s) fits⟩

/-- Settles O59: the two runs are one command from `s` and from `withGfx` of it. -/
theorem textCommandsIgnoreGraphicsRegisters : Obligations.TextCommandsIgnoreGraphicsRegisters := by
  intro s t i gw org p0 p1 p2 gfg gbg ga ba command text next
  obtain ⟨u, next', same⟩ := exec_withGfx ⟨gw, org, p0, p1, p2, gfg, gbg, ga, ba⟩ command text
  obtain rfl : u = t := Host.Outcome.next.inj (next'.symm.trans next)
  exact same

end Sys2Proof.Proofs.Noninterference
end
